-- ==== Sys2Proof/Word.lean ====
section
/-! DEFINITION. The word types of the frame engine (spec/00_scope.md R10, R12): every register, buffer and
field value is an unsigned bit vector; counts and indices are natural numbers. -/

namespace Sys2Proof

/-- A byte, 8 bits unsigned, bit 0 the least significant (R10). -/
abbrev Byte := BitVec 8

/-- A 4-bit fan code, as DS_FAN and the fan fields of MM hold it (R12). -/
abbrev Nibble := BitVec 4

/-- A 16-bit CRC value (R12). -/
abbrev Crc := BitVec 16

/-- A command word of the host, 32 bits (spec/30_encoding.md R59). -/
abbrev Word := BitVec 32

end Sys2Proof
end

