-- ==== Sys2Proof/Config.lean ====
section
/-! DEFINITION. What an implementation of the frame engine fixes: the fixed parameters of
spec/00_scope.md R7 as constants, and the record of the open parameters of R8. The check that the open
parameters must pass stands in Machine/ParamChecks.lean, and the opaque binding of State.reset in
WellFormed.lean. -/

namespace Sys2Proof.Config

/-! ## Fixed parameters (R7) -/

/-- The preamble byte: PREAMBLE is `FF FF`. -/
def preambleByte : Byte := 0xFF

/-- STATUS_TYPE: the command-offset value of a status response. -/
def statusType : Byte := 0x02

/-- STATUS_SIZE: bytes in a StatusFrame. -/
abbrev statusSize : Nat := 47

/-- CTRL_SIZE: bytes in a ControlFrame. -/
abbrev ctrlSize : Nat := 25

/-- INIT_SIZE: bytes in each InitFrame. -/
abbrev initSize : Nat := 13

/-- POLL_FRAME: the literal PollFrame of 15 bytes (R7; spec/30_encoding.md R49). -/
def pollFrame : List Byte :=
  [0xFF, 0xFF, 0x0A, 0x40, 0x00, 0x00, 0x00, 0x00, 0x00, 0x01, 0x4D, 0x01, 0x99, 0xB3, 0xB4]

/-- CRC_POLY: the reflected CRC polynomial. -/
def crcPoly : Crc := 0xA001

/-- CRC_SEED: the CRC's initial value in every use. -/
def crcSeed : Crc := 0x0000

/-- CUR_TEMP_MIN_C and CUR_TEMP_MAX_C, inclusive, in degrees Celsius. -/
def curTempMinC : Nat := 10
def curTempMaxC : Nat := 50

/-- SET_TEMP_MIN_C and SET_TEMP_MAX_C, inclusive, in degrees Celsius. -/
def setTempMinC : Nat := 16
def setTempMaxC : Nat := 30

/-- MM_CLIMATE_DEFAULT: fan Auto, setpoint 0x0A. -/
def mmClimateDefaultFan : Nibble := 0x5
def mmClimateDefaultSet : Byte := 0x0A

/-- MM_FANONLY_DEFAULT: fan High, setpoint 0x08. -/
def mmFanOnlyDefaultFan : Nibble := 0x1
def mmFanOnlyDefaultSet : Byte := 0x08

/-! ## Open parameters (R8) -/

/-- The open parameters of R8, raw: nothing but the widths is checked. An index that does not lie in its
frame is not representable. -/
structure RawParams where
  /-- ST_OFF_MODEFAN -/
  stOffModeFan : Fin 47
  /-- ST_OFF_FLAGS -/
  stOffFlags : Fin 47
  /-- ST_OFF_SETPOINT -/
  stOffSetpoint : Fin 47
  /-- ST_OFF_CURTEMP -/
  stOffCurTemp : Fin 47
  /-- ST_OFF_HSWING -/
  stOffHSwing : Fin 47
  /-- ST_OFF_VSWING -/
  stOffVSwing : Fin 47
  /-- CT_OFF_MODEFAN -/
  ctOffModeFan : Fin 25
  /-- CT_OFF_FLAGS -/
  ctOffFlags : Fin 25
  /-- CT_OFF_SETPOINT -/
  ctOffSetpoint : Fin 25
  /-- CT_OFF_HSWING -/
  ctOffHSwing : Fin 25
  /-- CT_OFF_VSWING -/
  ctOffVSwing : Fin 25
  /-- HSW_CENTER -/
  hswCenter : Byte
  /-- HSW_AUTO -/
  hswAuto : Byte
  /-- VSW_CENTER -/
  vswCenter : Byte
  /-- VSW_AUTO -/
  vswAuto : Byte
  /-- CTRL_TEMPLATE -/
  ctrlTemplate : Vector Byte 25
  /-- INIT_FRAME_1 -/
  initFrame1 : Vector Byte 13
  /-- INIT_FRAME_2 -/
  initFrame2 : Vector Byte 13
  /-- CUR_TEMP_RAW_MAX -/
  curTempRawMax : Byte
deriving DecidableEq, Repr

/-- TB0, the test binding of R9, for tests only: "It is NOT the device's layout". TB0 leaves the two
InitFrames symbolic, so they are arguments. -/
def RawParams.tb0 (init1 init2 : Vector Byte 13) : RawParams where
  stOffSetpoint := 10
  stOffModeFan := 11
  stOffFlags := 12
  stOffCurTemp := 13
  stOffHSwing := 14
  stOffVSwing := 15
  ctOffSetpoint := 10
  ctOffModeFan := 11
  ctOffFlags := 12
  ctOffHSwing := 13
  ctOffVSwing := 14
  hswCenter := 0x00
  hswAuto := 0x07
  vswCenter := 0x01
  vswAuto := 0x0C
  ctrlTemplate := #v[0xFF, 0xFF, 0x14, 0x40, 0, 0, 0, 0, 0, 0x01, 0, 0, 0, 0, 0, 0, 0, 0, 0, 0, 0, 0, 0, 0, 0]
  initFrame1 := init1
  initFrame2 := init2
  curTempRawMax := 100

/-- Two frames that meet the InitFrame constraints of spec/30_encoding.md R52, standing in for the device's
unknown InitFrames where a test needs concrete ones (DESIGN CHOICE, log entry 2: no frame of the device). -/
def standInInit1 : Vector Byte 13 := #v[0xFF, 0xFF, 0x08, 0, 0, 0, 0, 0, 0, 0x01, 0x09, 0x66, 0xC0]
def standInInit2 : Vector Byte 13 := #v[0xFF, 0xFF, 0x08, 0, 0, 0, 0, 0, 0, 0x02, 0x0A, 0x67, 0x80]

end Sys2Proof.Config
end

