-- ==== Sys2Proof/Machine/Checksum.lean ====
section
/-! DEFINITION. The dual-checksum validator and generator (spec/40_checksum.md): pure functions of byte
sequences, with no state (R72). -/

namespace Sys2Proof.Machine

/-- The bytes `f[2..off)` that both checksums cover. -/
def checkRange (f : List Byte) (off : Nat) : List Byte :=
  (f.take off).drop 2

/-- `checksum8(f, off)` (R73, R74): the sum of `f[2..off)` modulo 256, or `none` (FAIL) when `f` is shorter
than `off`. -/
def checksum8 (f : List Byte) (off : Nat) : Option Byte :=
  if f.length < off then none else some ((checkRange f off).foldl (· + ·) 0)

/-- One shift-and-conditional-XOR step of the CRC (R75). -/
def crcStep (c : Crc) : Crc :=
  if c.getLsbD 0 then (c >>> 1) ^^^ Config.crcPoly else c >>> 1

/-- `n` steps of the CRC. -/
def crcSteps : Nat → Crc → Crc
  | 0, c => c
  | n + 1, c => crcSteps n (crcStep c)

/-- One byte of the CRC: exclusive-or into the low 8 bits, then 8 steps (R75). -/
def crcByte (c : Crc) (b : Byte) : Crc :=
  crcSteps 8 (c ^^^ b.setWidth 16)

/-- `crc16(seed, bs)` (R75), over the bytes in index order. -/
def crc16 (seed : Crc) (bs : List Byte) : Crc :=
  bs.foldl crcByte seed

/-- The high and the low byte of a CRC, in the order they are stored (R36). -/
def crcHigh (c : Crc) : Byte := c.extractLsb' 8 8
def crcLow (c : Crc) : Byte := c.extractLsb' 0 8

/-- `checksumOffset = f[2] + 2`, a natural that never wraps (R41, R76). Every frame has a byte 2. -/
def checksumOffset (f : List Byte) : Nat :=
  (f.getD 2 0).toNat + 2

/-- `ChecksumOK(RXBUF)` (R77): the receive check. An offset above 46 fails without a read at or beyond
index 47 (R76). The CRC is not checked. -/
def checksumOK (buf : Vector Byte 47) : Bool :=
  let co := checksumOffset buf.toList
  if h : co < 47 then checksum8 buf.toList co == some buf[co] else false

/-- `Finalize(f)` (R78): writes the checksum and the CRC, both computed over `f[2..co)` as it stands before,
into the three trailer bytes. The rule requires `co + 2 <= n - 1`, which every ControlFrame meets; a write
outside `f` would be dropped (log entry 12: no caller makes one). -/
def finalize (f : List Byte) : List Byte :=
  let co := checksumOffset f
  let c := crc16 Config.crcSeed (checkRange f co)
  ((f.set co ((checksum8 f co).getD 0)).set (co + 1) (crcHigh c)).set (co + 2) (crcLow c)

/-- A frame's trailer is valid: its three bytes lie in the frame and are the checksum8 and the crc16, high
byte then low byte, over `f[2..co)` (R41, R52). -/
def trailerValid (f : List Byte) : Bool :=
  let co := checksumOffset f
  let c := crc16 Config.crcSeed (checkRange f co)
  f[co]? == checksum8 f co && f[co + 1]? == some (crcHigh c) && f[co + 2]? == some (crcLow c)

end Sys2Proof.Machine
end

