-- ==== Sys2Proof/Machine/ParamChecks.lean ====
section
/-! DEFINITION. The constraints that spec/00_scope.md R8 and spec/30_encoding.md R51, R52 put on the open
parameters, one check each. A parameter set that breaks one is refused (WellFormed.lean). -/

namespace Sys2Proof.Machine

open Sys2Proof.Config

/-- The index lies in `{3..8} ∪ {10..43}` (R8). -/
def statusIndexOk (i : Fin 47) : Bool :=
  (3 ≤ i.val && i.val ≤ 8) || (10 ≤ i.val && i.val ≤ 43)

/-- The index lies in `{3..8} ∪ {10..21}` (R8). -/
def controlIndexOk (i : Fin 25) : Bool :=
  (3 ≤ i.val && i.val ≤ 8) || (10 ≤ i.val && i.val ≤ 21)

/-- The six ST_OFF indices. -/
def statusIndices (r : RawParams) : List (Fin 47) :=
  [r.stOffModeFan, r.stOffFlags, r.stOffSetpoint, r.stOffCurTemp, r.stOffHSwing, r.stOffVSwing]

/-- The five CT_OFF indices. -/
def controlIndices (r : RawParams) : List (Fin 25) :=
  [r.ctOffModeFan, r.ctOffFlags, r.ctOffSetpoint, r.ctOffHSwing, r.ctOffVSwing]

/-- Every ST_OFF index lies in its range (R8). -/
def statusIndicesInRange (r : RawParams) : Bool := (statusIndices r).all statusIndexOk

/-- "The six ST_OFF_* indices are pairwise distinct" (R8). -/
def statusIndicesDistinct (r : RawParams) : Bool := decide (statusIndices r).Nodup

/-- Every CT_OFF index lies in its range (R8). -/
def controlIndicesInRange (r : RawParams) : Bool := (controlIndices r).all controlIndexOk

/-- "and so are the five CT_OFF_* indices" (R8). -/
def controlIndicesDistinct (r : RawParams) : Bool := decide (controlIndices r).Nodup

/-- `HSW_CENTER != HSW_AUTO` (R8). -/
def hSwingCodesDiffer (r : RawParams) : Bool := r.hswCenter != r.hswAuto

/-- `VSW_CENTER != VSW_AUTO` (R8). -/
def vSwingCodesDiffer (r : RawParams) : Bool := r.vswCenter != r.vswAuto

/-- `CTRL_TEMPLATE[0] = CTRL_TEMPLATE[1] = 0xFF` (R51). -/
def templatePreambleOk (r : RawParams) : Bool :=
  r.ctrlTemplate[0] == preambleByte && r.ctrlTemplate[1] == preambleByte

/-- `CTRL_TEMPLATE[2] = 0x14` (R51). -/
def templateLengthOk (r : RawParams) : Bool := r.ctrlTemplate[2] == 0x14

/-- `F[0] = F[1] = 0xFF` for an InitFrame (R52). -/
def initPreambleOk (f : Vector Byte 13) : Bool := f[0] == preambleByte && f[1] == preambleByte

/-- `F[2] = 0x08` for an InitFrame (R52). -/
def initLengthOk (f : Vector Byte 13) : Bool := f[2] == 0x08

/-- The trailer of an InitFrame: `F[10] = checksum8(F, 10)` and the CRC of `F[2..10)` in `F[11]`, `F[12]`
(R52). -/
def initTrailerOk (f : Vector Byte 13) : Bool :=
  checksum8 f.toList 10 == some f[10]
    && f[11] == crcHigh (crc16 crcSeed (checkRange f.toList 10))
    && f[12] == crcLow (crc16 crcSeed (checkRange f.toList 10))

/-- All the constraints of R52 on one InitFrame. -/
def initFrameOk (f : Vector Byte 13) : Bool := initPreambleOk f && initLengthOk f && initTrailerOk f

/-- `CUR_TEMP_RAW_MAX` is 100 or 101 (R8). -/
def curTempRawMaxOk (r : RawParams) : Bool := r.curTempRawMax == 100 || r.curTempRawMax == 101

end Sys2Proof.Machine
end

