-- ==== Sys2Proof/Syntax.lean ====
section
/-! DEFINITION. The command set: one constructor of Instr per row of spec/opcode_table.json, with the
operand fields of REQ_CHANGE as constructors (spec/30_encoding.md R60 to R65), and the pseudo-instructions
of R71. -/

namespace Sys2Proof

/-- The requested mode, field MODE (R62, names of R70). -/
inductive ModeReq where
  | off | heatCool | auto | heat | dry | cool | fanOnly
  /-- `MODE = 7`, the reserved value: no effect on the frame, but still counts as present. -/
  | m7
deriving DecidableEq, Repr

/-- The requested fan level, field FAN (R63). The last four stand for the "other externally-defined fan
concept", accepted without effect. -/
inductive FanReq where
  | auto | low | medium | high | on | off | focus | diffuse
deriving DecidableEq, Repr

/-- The requested swing, field SWING (R64). -/
inductive SwingReq where
  | off | vertical | horizontal | both
deriving DecidableEq, Repr

/-- A command of the host. A value field whose presence bit is false is kept: the word carries it, and the
meaning ignores it (R61). -/
inductive Instr where
  /-- PROCESS (R86) -/
  | process
  /-- SEND_POLL (R117) -/
  | sendPoll
  /-- SEND_INIT1 (R118) -/
  | sendInit1
  /-- SEND_INIT2 (R118) -/
  | sendInit2
  /-- REQ_CHANGE (R103): `temp` is in half-degrees Celsius (R65). -/
  | reqChange (mp : Bool) (mode : ModeReq) (fp : Bool) (fan : FanReq) (sp : Bool) (swing : SwingReq)
      (tp : Bool) (temp : Byte)
  /-- READ_STATE (R119) -/
  | readState
deriving DecidableEq, Repr

/-! ## Pseudo-instructions (R71): an operand that is absent leaves its fields 0 (R70). -/

/-- `POWER_TOGGLE` = `REQ_CHANGE mode=OFF`. -/
def Instr.powerToggle : Instr := .reqChange true .off false .auto false .off false 0

/-- `SET_TEMP d` = `REQ_CHANGE temp=d`, with `temp = 2*d` in half-degrees. -/
def Instr.setTemp (temp : Byte) : Instr := .reqChange false .off false .auto false .off true temp

/-- `SET_FAN f` = `REQ_CHANGE fan=f`. -/
def Instr.setFan (fan : FanReq) : Instr := .reqChange false .off true fan false .off false 0

/-- `SET_SWING s` = `REQ_CHANGE swing=s`. -/
def Instr.setSwing (swing : SwingReq) : Instr := .reqChange false .off false .auto true swing false 0

/-- `INIT_SEQUENCE` = `SEND_INIT1`, a host delay of 1 s (which issues nothing), `SEND_INIT2`. -/
def Instr.initSequence : List Instr := [.sendInit1, .sendInit2]

/-- `POLL_TICK` = `SEND_POLL`. -/
def Instr.pollTick : Instr := .sendPoll

/-- A row of spec/opcode_table.json: a word is the row's when its bits under `mask` are `pattern`. -/
structure OpcodeRow where
  mnemonic : String
  pattern : Word
  mask : Word
deriving DecidableEq, Repr

end Sys2Proof
end

