-- ==== Sys2Proof/WellFormed.lean ====
section
/-! DEFINITION. What is well-formed: a set of open parameters that meets every constraint of
spec/00_scope.md R8 and spec/30_encoding.md R51, R52 (the type Params, so that an ill-formed set cannot be
built), and every command, since "every value of every field is legal" (R66 (b)). -/

namespace Sys2Proof

open Sys2Proof.Machine

/-- The parameter set meets every constraint of R8, R51 and R52. -/
def Config.RawParams.wf (r : Config.RawParams) : Bool :=
  statusIndicesInRange r && statusIndicesDistinct r && controlIndicesInRange r && controlIndicesDistinct r
    && hSwingCodesDiffer r && vSwingCodesDiffer r && templatePreambleOk r && templateLengthOk r
    && initFrameOk r.initFrame1 && initFrameOk r.initFrame2 && curTempRawMaxOk r

/-- A well-formed set of open parameters: the argument a model takes (R8). The default fields only show that
such a set exists (log entry 2); they are TB0 with the stand-in InitFrames. -/
structure Params where
  raw : Config.RawParams := .tb0 Config.standInInit1 Config.standInInit2
  ok : raw.wf = true := by decide +kernel
deriving DecidableEq, Repr, Inhabited

/-- The device's own parameters: which well-formed set they are, nothing can prove (R8: OPEN; log entry 1). -/
opaque Config.params : Params

/-- TB0 with the stand-in InitFrames, for tests only (R9). -/
def Params.tb0 : Params := {}

/-- Every command is well-formed: its operands are of exactly the encodable values (R66 (b)). -/
def Instr.wf : Instr → Bool
  | .process => true
  | .sendPoll => true
  | .sendInit1 => true
  | .sendInit2 => true
  | .reqChange _ _ _ _ _ _ _ _ => true
  | .readState => true

end Sys2Proof
end

