-- ==== Sys2Proof/Machine/State.lean ====
section
/-! DEFINITION. The machine's state as plain data: the block's elements (spec/10_state.md R15), the
environment's two (R29), the host's record of responses (spec/30_encoding.md R67), the environment's moves
and the open parameters; the reasons a step can stop; and the state after reset (R31). -/

namespace Sys2Proof.Machine

/-- ASM_STATE (R18). The values 5, 6 and 7 of its encoding are not representable, as R18 allows. -/
inductive AsmState where
  /-- SeekingPreamble: idle, no byte of a frame held. -/
  | seek
  /-- ReadingFirstFF: a byte is available, and the next byte read is tested as the first `FF`. -/
  | rd1
  /-- ReadingSecondFF: the first `FF` is held. -/
  | rd2
  /-- ReadingBody: the preamble is held, and body bytes are being collected. -/
  | body
  /-- FrameReady: all 47 bytes are held. -/
  | ready
deriving DecidableEq, Repr

/-- The DeviceState register DS (R22): raw codes, exactly as received. -/
structure DeviceState where
  /-- DS_POWER -/
  power : Bool
  /-- DS_PURIFY -/
  purify : Bool
  /-- DS_QUIET -/
  quiet : Bool
  /-- DS_FAST -/
  fast : Bool
  /-- DS_MODE, low nibble always 0 -/
  mode : Byte
  /-- DS_FAN -/
  fan : Nibble
  /-- DS_SETPOINT -/
  setpoint : Byte
  /-- DS_CURTEMP -/
  curtemp : Byte
  /-- DS_HSWING -/
  hswing : Byte
  /-- DS_VSWING -/
  vswing : Byte
deriving DecidableEq, Repr, Inhabited

end Sys2Proof.Machine

namespace Sys2Proof.Config

/-- A free value: what DS would read as in a state where STATUS_VALID = 1 and DS holds no value, which no run
reaches (R24; spec/93_implementation_defined.md I1: any value). The argument is a counter, the number of
responses given so far (log entry 8). -/
opaque undefinedDs : Nat → Machine.DeviceState

end Sys2Proof.Config

namespace Sys2Proof.Machine

/-- The ModeMemory register MM (R25). -/
structure ModeMemory where
  /-- MM_CLIM_FAN -/
  climFan : Nibble
  /-- MM_CLIM_SET -/
  climSet : Byte
  /-- MM_FAN_FAN -/
  fanFan : Nibble
  /-- MM_FAN_SET -/
  fanSet : Byte
deriving DecidableEq, Repr

/-- MM after reset (R31). -/
def ModeMemory.reset : ModeMemory where
  climFan := Config.mmClimateDefaultFan
  climSet := Config.mmClimateDefaultSet
  fanFan := Config.mmFanOnlyDefaultFan
  fanSet := Config.mmFanOnlyDefaultSet

/-! ## Responses (spec/30_encoding.md R67 to R69) -/

/-- `rsp.status` (R67); its fourth code is never produced. -/
inductive Status where
  | ok
  /-- CommandBeforeFirstStatus -/
  | rejected
  | illegalCmd
deriving DecidableEq, Repr

/-- `rsp.evt` (R68); its codes 5 to 7 are never produced. -/
inductive FrameEvt where
  /-- FrameTruncated, "not yet" -/
  | none
  | accepted
  /-- UnrecognizedFrameType -/
  | badType
  /-- ChecksumMismatch -/
  | badChecksum
  /-- ImplausibleTemperature -/
  | badTemp
deriving DecidableEq, Repr

/-- `proj_mode` (R69); its code 2 (AUTO) is never produced. -/
inductive ProjMode where
  | off | heatCool | heat | dry | cool | fanOnly | unknown
deriving DecidableEq, Repr

/-- `proj_fan` (R69); its codes 4, 6 and 7 are never produced. -/
inductive ProjFan where
  | auto | low | medium | high | off
deriving DecidableEq, Repr

/-- `proj_swing` (R69). -/
inductive ProjSwing where
  | off | vertical | horizontal | both
deriving DecidableEq, Repr

/-- The three projection fields of a response, which are set together (R67). -/
structure Projection where
  mode : ProjMode
  fan : ProjFan
  swing : ProjSwing
deriving DecidableEq, Repr

/-- The response record of one operation (R67). A field the operation does not set is absent. -/
structure Response where
  status : Status
  /-- set by PROCESS -/
  evt : Option FrameEvt
  /-- whether the operation called TxFrame -/
  sent : Bool
  /-- set by READ_STATE: the value of STATUS_VALID -/
  valid : Option Bool
  /-- `proj_mode`, `proj_fan`, `proj_swing` -/
  proj : Option Projection
  /-- `power` to `vswing`: copies of the DS fields, set by READ_STATE when `valid = 1` -/
  fields : Option DeviceState
deriving DecidableEq, Repr

/-! ## The environment's moves (spec/00_scope.md R5, R6; spec/30_encoding.md R70) -/

/-- One move of the environment, between two operations or the operation the host issues. -/
inductive Event where
  /-- The host issues a command word (R59). -/
  | command (w : Word)
  /-- The byte source appends one byte to RXQ (R29): an `rx` line of R70 is one of these per byte. -/
  | arrive (b : Byte)
  /-- The reset input is asserted (spec/70_reset_and_hazards.md R133). -/
  | reset
deriving DecidableEq, Repr

/-! ## The state -/

/-- The whole state. -/
structure State where
  /-- ASM_STATE (R18) -/
  asmState : AsmState
  /-- ASM_CNT (R15): the number of bytes held in RXBUF, 0..47 -/
  asmCnt : Nat
  /-- RXBUF[0..47) (R20) -/
  rxbuf : Vector Byte 47
  /-- STATUS_VALID (R21) -/
  statusValid : Bool
  /-- DS (R22): absent while it holds no value (R24) -/
  ds : Option DeviceState
  /-- MM (R25) -/
  mm : ModeMemory
  /-- RXQ, the inbound FIFO, head first (R29 (a)) -/
  rxq : List Byte
  /-- TXLOG, the frames handed over, oldest first (R29 (b)) -/
  txlog : List (List Byte)
  /-- The responses the host has been given, oldest first (the model's record of R67; log entry 4) -/
  rsplog : List Response
  /-- The moves of the environment still to come (log entry 3) -/
  script : List Event
  /-- The open parameters (R8), never written (log entry 1) -/
  par : Params
deriving DecidableEq, Repr

/-- Why a machine stops with a fault: never. "Nothing in this core is fatal; there is no panic/abort path"
(spec/60_exceptions.md R120), so no meaning and no step raises a fault. -/
inductive Fault where
deriving DecidableEq, Repr

/-- Why the model has no meaning to give. -/
inductive Refusal where
  /-- Raised by exec's arm of an instruction that has no meaning yet, by its mnemonic; safe. No arm raises it. -/
  | notModelled (mnemonic : String)
  /-- Raised by `powerOn` for a parameter set that breaks a constraint of R8, R51 or R52 ("A model that is given
  a template breaking the first two constraints refuses it"); safe. No step raises it. -/
  | badParameters
deriving DecidableEq, Repr

/-- RXBUF's value after reset: DESIGN CHOICE all zeros (log entry 5); the spec leaves it "unspecified, and never
read before written" (R31). -/
def rxbufReset : Vector Byte 47 := Vector.replicate 47 0

/-- The state right after reset of a block whose open parameters are `p` (R31), with nothing received,
transmitted, answered or lined up yet (log entry 7). -/
def State.resetWith (p : Params) : State where
  asmState := .seek
  asmCnt := 0
  rxbuf := rxbufReset
  statusValid := false
  ds := none
  mm := ModeMemory.reset
  rxq := []
  txlog := []
  rsplog := []
  script := []
  par := p

/-- The machine right after reset, for the device's own parameters. -/
def State.reset : State := State.resetWith Config.params

end Sys2Proof.Machine
end

