-- ==== Sys2Proof/Machine/Flags.lean ====
section
/-! DEFINITION. The bit-packed fields of a frame: the mode/fan byte (spec/30_encoding.md R54) and the
status-flags byte (R55), unpacked (spec/42_status_decoder.md R95) and packed (spec/43_command_encoder.md R112).
The block has no arithmetic condition codes (spec/10_state.md R27). -/

namespace Sys2Proof.Machine

/-- The mode code `mf & 0xF0`. -/
def modeCode (mf : Byte) : Byte := mf &&& 0xF0

/-- The fan code `mf & 0x0F`, a 4-bit value. -/
def fanCode (mf : Byte) : Nibble := mf.extractLsb' 0 4

/-- `m | fn`: mode in bits 7..4, fan in bits 3..0. -/
def packModeFan (m : Byte) (fn : Nibble) : Byte := m ||| fn.setWidth 8

/-- The four named bits of the flags byte; bits 2, 5, 6 and 7 are ignored. -/
def flagPower (fl : Byte) : Bool := fl.getLsbD 0
def flagPurify (fl : Byte) : Bool := fl.getLsbD 1
def flagQuiet (fl : Byte) : Bool := fl.getLsbD 3
def flagFast (fl : Byte) : Bool := fl.getLsbD 4

/-- One bit as a byte, at position `k`. -/
def flagBit (b : Bool) (k : Nat) : Byte := (BitVec.ofBool b).setWidth 8 <<< k

/-- `(t & 0xE4) | p | (pu << 1) | (q << 3) | (fa << 4)`: bits 2, 5, 6 and 7 from the template's byte. -/
def packFlags (t : Byte) (p pu q fa : Bool) : Byte :=
  (t &&& 0xE4) ||| flagBit p 0 ||| flagBit pu 1 ||| flagBit q 3 ||| flagBit fa 4

end Sys2Proof.Machine
end

