-- ==== Sys2Proof/Decode.lean ====
section
/-! DEFINITION. The command port's decoder, total on every 32-bit word and rejecting by name
(spec/30_encoding.md R59 to R66), and the encoder (R70), written from the same tables. -/

namespace Sys2Proof

/-- Why a word is illegal (R66 (a)). -/
inductive DecodeReject where
  /-- `w[3:0]` is `0x0` or `0x7..0xF`. -/
  | reservedOpcode
  /-- A nonzero bit in `w[31:24]` of REQ_CHANGE, or in `w[31:4]` of any other opcode. -/
  | reservedBits
deriving DecidableEq, Repr

/-! ## Field codes -/

/-- MODE values (R62). -/
def ModeReq.code : ModeReq → BitVec 3
  | .off => 0 | .heatCool => 1 | .auto => 2 | .heat => 3 | .dry => 4 | .cool => 5 | .fanOnly => 6 | .m7 => 7

def ModeReq.ofCode (c : BitVec 3) : ModeReq :=
  match c.toNat with
  | 0 => .off | 1 => .heatCool | 2 => .auto | 3 => .heat | 4 => .dry | 5 => .cool | 6 => .fanOnly | _ => .m7

/-- FAN values (R63). -/
def FanReq.code : FanReq → BitVec 3
  | .auto => 0 | .low => 1 | .medium => 2 | .high => 3 | .on => 4 | .off => 5 | .focus => 6 | .diffuse => 7

def FanReq.ofCode (c : BitVec 3) : FanReq :=
  match c.toNat with
  | 0 => .auto | 1 => .low | 2 => .medium | 3 => .high | 4 => .on | 5 => .off | 6 => .focus | _ => .diffuse

/-- SWING values (R64). -/
def SwingReq.code : SwingReq → BitVec 2
  | .off => 0 | .vertical => 1 | .horizontal => 2 | .both => 3

def SwingReq.ofCode (c : BitVec 2) : SwingReq :=
  match c.toNat with
  | 0 => .off | 1 => .vertical | 2 => .horizontal | _ => .both

/-! ## Decoder -/

/-- `w[3:0]`, the opcode (R59). -/
def opcodeOf (w : Word) : BitVec 4 := w.extractLsb' 0 4

/-- An operation without operands: `w[31:4]` must be zero (R59). -/
def decodeNoArg (i : Instr) (w : Word) : Except DecodeReject Instr :=
  if w.extractLsb' 4 28 = 0 then .ok i else .error .reservedBits

/-- REQ_CHANGE: the operand fields of R61; `w[31:24]` must be zero. -/
def decodeReqChange (w : Word) : Except DecodeReject Instr :=
  if w.extractLsb' 24 8 = 0 then
    .ok (.reqChange (w.getLsbD 4) (ModeReq.ofCode (w.extractLsb' 5 3)) (w.getLsbD 8)
      (FanReq.ofCode (w.extractLsb' 9 3)) (w.getLsbD 12) (SwingReq.ofCode (w.extractLsb' 13 2)) (w.getLsbD 15)
      (w.extractLsb' 16 8))
  else .error .reservedBits

/-- The opcode map (R60). -/
def decode (w : Word) : Except DecodeReject Instr :=
  match (opcodeOf w).toNat with
  | 1 => decodeNoArg .process w
  | 2 => decodeNoArg .sendPoll w
  | 3 => decodeNoArg .sendInit1 w
  | 4 => decodeNoArg .sendInit2 w
  | 5 => decodeReqChange w
  | 6 => decodeNoArg .readState w
  | _ => .error .reservedOpcode

/-! ## Encoder -/

/-- The encoding of REQ_CHANGE (R70):
`w = op | MP<<4 | MODE<<5 | FP<<8 | FAN<<9 | SP<<12 | SWING<<13 | TP<<15 | TEMP<<16`. -/
def encodeReqChange (mp : Bool) (mode : ModeReq) (fp : Bool) (fan : FanReq) (sp : Bool) (swing : SwingReq)
    (tp : Bool) (temp : Byte) : Word :=
  0x5#32
    ||| (BitVec.ofBool mp).setWidth 32 <<< 4 ||| mode.code.setWidth 32 <<< 5
    ||| (BitVec.ofBool fp).setWidth 32 <<< 8 ||| fan.code.setWidth 32 <<< 9
    ||| (BitVec.ofBool sp).setWidth 32 <<< 12 ||| swing.code.setWidth 32 <<< 13
    ||| (BitVec.ofBool tp).setWidth 32 <<< 15 ||| temp.setWidth 32 <<< 16

/-- The word of a command (R60, R70). -/
def encode : Instr → Word
  | .process => 0x1
  | .sendPoll => 0x2
  | .sendInit1 => 0x3
  | .sendInit2 => 0x4
  | .reqChange mp mode fp fan sp swing tp temp => encodeReqChange mp mode fp fan sp swing tp temp
  | .readState => 0x6

/-! ## The opcode table as data (spec/opcode_table.json) -/

/-- The row of a command. -/
def opcodeRow : Instr → OpcodeRow
  | .process => ⟨"PROCESS", 0x00000001, 0xFFFFFFFF⟩
  | .sendPoll => ⟨"SEND_POLL", 0x00000002, 0xFFFFFFFF⟩
  | .sendInit1 => ⟨"SEND_INIT1", 0x00000003, 0xFFFFFFFF⟩
  | .sendInit2 => ⟨"SEND_INIT2", 0x00000004, 0xFFFFFFFF⟩
  | .reqChange .. => ⟨"REQ_CHANGE", 0x00000005, 0xFF00000F⟩
  | .readState => ⟨"READ_STATE", 0x00000006, 0xFFFFFFFF⟩

/-- The six rows. -/
def opcodeTable : List OpcodeRow :=
  [⟨"PROCESS", 0x00000001, 0xFFFFFFFF⟩, ⟨"SEND_POLL", 0x00000002, 0xFFFFFFFF⟩,
   ⟨"SEND_INIT1", 0x00000003, 0xFFFFFFFF⟩, ⟨"SEND_INIT2", 0x00000004, 0xFFFFFFFF⟩,
   ⟨"REQ_CHANGE", 0x00000005, 0xFF00000F⟩, ⟨"READ_STATE", 0x00000006, 0xFFFFFFFF⟩]

/-- The word is the row's. -/
def OpcodeRow.matchesWord (r : OpcodeRow) (w : Word) : Bool := w &&& r.mask == r.pattern

/-! ## Words as the opcode table numbers them -/

/-- The number whose low `nbits` bits are `w`'s and whose other bits are 0. -/
def tableBits (nbits w : Nat) : Nat := w % 2 ^ nbits

/-- The command word an instruction of the table stands for: bit `k` of the table is bit `k` of the word. -/
def tableWord (nbits w : Nat) : Word := BitVec.ofNat 32 (tableBits nbits w)

/-- The command the decoder reads from an instruction whose bits are `w`, as spec/opcode_table.json numbers
them. A command is one 32-bit word (R59), so a number that needs more bits is no command. -/
def decodeTableWord (nbits w : Nat) : Option Instr :=
  if tableBits nbits w < 2 ^ 32 then (decode (tableWord nbits w)).toOption else none

end Sys2Proof
end

