-- ==== Sys2Proof/Machine/Responses.lean ====
section
/-! DEFINITION. The codes of the response fields (spec/30_encoding.md R67 to R69) and the responses the
operations build. -/

namespace Sys2Proof.Machine

/-- ASM_STATE's encoding (spec/10_state.md R18). -/
def AsmState.code : AsmState → BitVec 3
  | .seek => 0 | .rd1 => 1 | .rd2 => 2 | .body => 3 | .ready => 4

/-- `rsp.status` codes (R67). -/
def Status.code : Status → BitVec 2
  | .ok => 0 | .rejected => 1 | .illegalCmd => 2

/-- `rsp.evt` codes (R68). -/
def FrameEvt.code : FrameEvt → BitVec 3
  | .none => 0 | .accepted => 1 | .badType => 2 | .badChecksum => 3 | .badTemp => 4

/-- `proj_mode` codes (R69). -/
def ProjMode.code : ProjMode → BitVec 3
  | .off => 0 | .heatCool => 1 | .heat => 3 | .dry => 4 | .cool => 5 | .fanOnly => 6 | .unknown => 7

/-- `proj_fan` codes (R69). -/
def ProjFan.code : ProjFan → BitVec 3
  | .auto => 0 | .low => 1 | .medium => 2 | .high => 3 | .off => 5

/-- `proj_swing` codes (R69). -/
def ProjSwing.code : ProjSwing → BitVec 2
  | .off => 0 | .vertical => 1 | .horizontal => 2 | .both => 3

/-- A response that sets `status` and `sent` only. -/
def Response.plain (status : Status) (sent : Bool) : Response where
  status := status
  evt := none
  sent := sent
  valid := none
  proj := none
  fields := none

end Sys2Proof.Machine
end

