-- ==== Sys2Proof/Machine/Ops.lean ====
section
/-! DEFINITION. The named operations over the state: the pseudocode primitives of spec/00_scope.md R11, the
moves of the environment (spec/10_state.md R29, spec/70_reset_and_hazards.md R133), and raising an error
outcome, which is all the block has in place of an exception (spec/60_exceptions.md R120, R126, R127: no trap
entry and no trap return). -/

namespace Sys2Proof.Machine

/-! ## Ports (R11) -/

/-- `RxAvail()`: the inbound FIFO holds at least one byte. -/
def rxAvail (s : State) : Bool := !s.rxq.isEmpty

/-- `RxRead()`: removes and returns the FIFO's head; `none` when there is none, where the spec never calls it. -/
def rxRead (s : State) : Option (Byte × State) :=
  match s.rxq with
  | [] => none
  | b :: q => some (b, { s with rxq := q })

/-- `TxFrame(f)`: appends the whole frame to the frame sink's record. -/
def txFrame (f : List Byte) (s : State) : State := { s with txlog := s.txlog ++ [f] }

/-- `respond(fields)`, at the end of an operation: the host is given the response record. -/
def respond (r : Response) (s : State) : State := { s with rsplog := s.rsplog ++ [r] }

/-- `raise E`: ends the operation with error outcome `E` in `rsp.status` and `sent = 0`; no state element
changes (R11; spec/60_exceptions.md R121, R123, R126). -/
def raiseOutcome (e : Status) (s : State) : State := respond (Response.plain e false) s

/-! ## Registers -/

/-- `RXBUF[i] <- v`. No rule forms an index outside 0..46 (spec/20_memory.md R32); such a write would be
dropped (log entry 9). -/
def rxbufWrite (i : Nat) (v : Byte) (s : State) : State := { s with rxbuf := s.rxbuf.setIfInBounds i v }

/-- The values DS reads as. Every reader is guarded by STATUS_VALID (spec/10_state.md R24); where DS holds no
value all the same, which no run reaches, they are free values (log entry 8). -/
def dsValue (s : State) : DeviceState := s.ds.getD (Config.undefinedDs s.rsplog.length)

/-! ## Moves of the environment -/

/-- The byte source appends a byte to RXQ (spec/10_state.md R29 (a)). -/
def rxArrive (b : Byte) (s : State) : State := { s with rxq := s.rxq ++ [b] }

/-- The reset input: every state element of the block takes its reset value (R31, R133); RXQ and TXLOG are
not cleared (R134). -/
def resetBlock (s : State) : State :=
  { s with
    asmState := .seek
    asmCnt := 0
    rxbuf := rxbufReset
    statusValid := false
    ds := none
    mm := ModeMemory.reset }

/-- Between two moves the block holds its state unchanged (spec/60_exceptions.md R132). -/
def idle (s : State) : State := s

/-- The next move of the environment, taken off the script. -/
def nextEvent (s : State) : Option (Event × State) :=
  match s.script with
  | [] => none
  | e :: rest => some (e, { s with script := rest })

/-- The host lines a command word up as the next move. -/
def issueNext (w : Word) (s : State) : State := { s with script := .command w :: s.script }

/-- Starting the block with a given set of open parameters: a set that breaks a constraint of R8, R51 or R52 is
refused (spec/93_implementation_defined.md I7, I8). -/
def powerOn (raw : Config.RawParams) : Host.Outcome State Fault Refusal :=
  if h : raw.wf = true then .next (State.resetWith ⟨raw, h⟩) else .refused .badParameters

end Sys2Proof.Machine
end

