-- ==== Sys2Proof/Machine/StatusDecoder.lean ====
section
/-! DEFINITION. The status validator, the bit-field decoder, the mode memory and the projection
(spec/42_status_decoder.md). -/

namespace Sys2Proof.Machine

/-! ## Conversions -/

/-- Target temperature in degrees Celsius (R91): no wrap-around. -/
def targetTemperature (raw : Byte) : Nat := raw.toNat + 16

/-- Current temperature in degrees Celsius (R92), exact. -/
def currentTemperature (raw : Byte) : Rat := (raw.toNat : Rat) / 2

/-! ## Decoding and validation -/

/-- `Decode(RXBUF)` (R95). -/
def statusDecode (par : Params) (buf : Vector Byte 47) : DeviceState where
  power := flagPower buf[par.raw.stOffFlags]
  purify := flagPurify buf[par.raw.stOffFlags]
  quiet := flagQuiet buf[par.raw.stOffFlags]
  fast := flagFast buf[par.raw.stOffFlags]
  mode := modeCode buf[par.raw.stOffModeFan]
  fan := fanCode buf[par.raw.stOffModeFan]
  setpoint := buf[par.raw.stOffSetpoint]
  curtemp := buf[par.raw.stOffCurTemp]
  hswing := buf[par.raw.stOffHSwing]
  vswing := buf[par.raw.stOffVSwing]

/-- `Plausible(d)` (R94), over the raw bytes. -/
def plausible (par : Params) (d : DeviceState) : Bool :=
  decide (20 ≤ d.curtemp.toNat) && decide (d.curtemp.toNat ≤ par.raw.curTempRawMax.toNat)
    && decide (d.setpoint.toNat ≤ 14)

/-- `Validate(RXBUF)` (R93): the checksum first, then the temperatures. -/
def validate (par : Params) (buf : Vector Byte 47) : FrameEvt :=
  if checksumOK buf then
    if plausible par (statusDecode par buf) then .accepted else .badTemp
  else .badChecksum

/-! ## Acceptance -/

/-- `MMUpdate(d)` (R98): exactly one slot is refreshed. -/
def mmUpdate (d : DeviceState) (mm : ModeMemory) : ModeMemory :=
  if d.mode = 0xC0 then { mm with fanFan := d.fan, fanSet := d.setpoint }
  else { mm with climFan := d.fan, climSet := d.setpoint }

/-- `AcceptUpdate(RXBUF)` (R96). -/
def acceptUpdate (s : State) : State :=
  let d := statusDecode s.par s.rxbuf
  { s with ds := some d, mm := mmUpdate d s.mm, statusValid := true }

/-! ## Projection -/

/-- `ProjMode(DS)` (R100). -/
def projMode (d : DeviceState) : ProjMode :=
  if d.power = false then .off
  else if d.mode = 0x00 then .heatCool
  else if d.mode = 0x20 then .cool
  else if d.mode = 0x40 then .dry
  else if d.mode = 0x80 then .heat
  else if d.mode = 0xC0 then .fanOnly
  else .unknown

/-- `ProjFan(DS)` (R101): quiet takes precedence over fast; an unknown code reads as Auto. -/
def projFan (d : DeviceState) : ProjFan :=
  if d.power = false then .off
  else if d.quiet = true then .low
  else if d.fast = true then .high
  else if d.fan = 0x5 then .auto
  else if d.fan = 0x3 then .low
  else if d.fan = 0x2 then .medium
  else if d.fan = 0x1 then .high
  else .auto

/-- `ProjSwing(DS)` (R102). -/
def projSwing (par : Params) (d : DeviceState) : ProjSwing :=
  let hA := d.hswing = par.raw.hswAuto
  let vA := d.vswing = par.raw.vswAuto
  if d.power = false then .off
  else if hA ∧ vA then .both
  else if hA then .horizontal
  else if vA then .vertical
  else .off

/-- The three projections of one DeviceState. -/
def projection (par : Params) (d : DeviceState) : Projection where
  mode := projMode d
  fan := projFan d
  swing := projSwing par d

end Sys2Proof.Machine
end

