-- ==== Sys2Proof/Machine/Assembler.lean ====
section
/-! DEFINITION. The frame preamble synchroniser and byte-collection state machine, and the operation PROCESS
(spec/41_assembler.md). -/

namespace Sys2Proof.Machine

/-! ## The transition function -/

/-- The row of R81 for state RD1 and the byte read. -/
def asmFirstByte (b : Byte) (s : State) : State :=
  if b = Config.preambleByte then { rxbufWrite 0 b s with asmCnt := 1, asmState := .rd2 }
  else { s with asmState := .seek }

/-- The row of R81 for state RD2 and the byte read. -/
def asmSecondByte (b : Byte) (s : State) : State :=
  if b = Config.preambleByte then { rxbufWrite 1 b s with asmCnt := 2, asmState := .body }
  else { s with asmCnt := 0, asmState := .seek }

/-- The row of R81 for state BODY and the byte read. -/
def asmBodyByte (b : Byte) (s : State) : State :=
  { rxbufWrite s.asmCnt b s with
    asmCnt := s.asmCnt + 1
    asmState := if s.asmCnt + 1 = Config.statusSize then .ready else .body }

/-- `AsmStep()` (R81). It is never called in state READY, where it would change nothing. -/
def asmStep (s : State) : State :=
  match s.asmState with
  | .seek => if rxAvail s then { s with asmState := .rd1 } else s
  | .rd1 => match rxRead s with | none => s | some (b, s') => asmFirstByte b s'
  | .rd2 => match rxRead s with | none => s | some (b, s') => asmSecondByte b s'
  | .body => match rxRead s with | none => s | some (b, s') => asmBodyByte b s'
  | .ready => s

/-! ## End of frame -/

/-- The outcome of the candidate in RXBUF (R84): the type check, then Validate. -/
def frameVerdict (par : Params) (buf : Vector Byte 47) : FrameEvt :=
  if buf[9] ≠ Config.statusType then .badType else validate par buf

/-- `FrameReadyEval()` (R84): whatever the outcome, the assembler returns to SEEK. -/
def frameReadyEval (s : State) : State × FrameEvt :=
  let r := frameVerdict s.par s.rxbuf
  let s' := if r = .accepted then acceptUpdate s else s
  ({ s' with asmCnt := 0, asmState := .seek }, r)

/-! ## PROCESS -/

/-- The loop of R86, for at most `n` calls of AsmStep or FrameReadyEval. -/
def processLoop : Nat → State → State × FrameEvt
  | 0, s => (s, .none)
  | n + 1, s =>
    if s.asmState = .ready then frameReadyEval s
    else if rxAvail s then processLoop n (asmStep s)
    else (s, .none)

/-- How many calls the loop may need: `2k + 1` for `k` bytes in RXQ (R88; log entry 11). -/
def processFuel (s : State) : Nat := 2 * s.rxq.length + 1

/-- The loop of R86. -/
def processRun (s : State) : State × FrameEvt := processLoop (processFuel s) s

/-- The response of PROCESS (R86): the projection only when a frame was accepted. -/
def processResponse (evt : FrameEvt) (s : State) : Response :=
  { Response.plain .ok false with
    evt := some evt
    proj := if evt = .accepted then some (projection s.par (dsValue s)) else none }

/-- PROCESS (R86). -/
def execProcess (s : State) : Host.Outcome State Fault Refusal :=
  let r := processRun s
  .next (respond (processResponse r.2 r.1) r.1)

end Sys2Proof.Machine
end

