-- ==== Sys2Proof/Machine/Operands.lean ====
section
/-! DEFINITION. What each operand of REQ_CHANGE does to the working values (spec/43_command_encoder.md R105 to
R110). -/

namespace Sys2Proof.Machine

/-- The working values `p, pu, q, fa, m, fn, sp, h, v` of one REQ_CHANGE (R105). -/
structure Working where
  p : Bool
  pu : Bool
  q : Bool
  fa : Bool
  m : Byte
  fn : Nibble
  sp : Byte
  h : Byte
  v : Byte
deriving DecidableEq, Repr

/-- `Seed(DS)` (R105): every field but the current temperature. -/
def seed (d : DeviceState) : Working where
  p := d.power
  pu := d.purify
  q := d.quiet
  fa := d.fast
  m := d.mode
  fn := d.fan
  sp := d.setpoint
  h := d.hswing
  v := d.vswing

/-- Power on, mode code `m`, fan and setpoint from the climate slot (R106). -/
def climatePath (m : Byte) (mm : ModeMemory) (w : Working) : Working :=
  { w with p := true, m := m, fn := mm.climFan, sp := mm.climSet }

/-- Power on, mode Fan, fan and setpoint from the fan-only slot (R106). -/
def fanOnlyPath (mm : ModeMemory) (w : Working) : Working :=
  { w with p := true, m := 0xC0, fn := mm.fanFan, sp := mm.fanSet }

/-- `ModeChange` (R106). OFF toggles against DS.POWER; AUTO is exactly HEAT_COOL (spec/90_conflicts.md C1);
the value 7 changes nothing. -/
def modeChange (mode : ModeReq) (dsPower : Bool) (mm : ModeMemory) (w : Working) : Working :=
  match mode with
  | .off => { w with p := !dsPower }
  | .heatCool => climatePath 0x00 mm w
  | .auto => climatePath 0x00 mm w
  | .heat => climatePath 0x80 mm w
  | .dry => climatePath 0x40 mm w
  | .cool => climatePath 0x20 mm w
  | .fanOnly => fanOnlyPath mm w
  | .m7 => w

/-- `FanChange` (R107): the four selectable levels; the others are no-ops. -/
def fanChange (fan : FanReq) (fn : Nibble) : Nibble :=
  match fan with
  | .auto => 0x5
  | .low => 0x3
  | .medium => 0x2
  | .high => 0x1
  | .on => fn
  | .off => fn
  | .focus => fn
  | .diffuse => fn

/-- `SwingChange` (R108): the horizontal and the vertical axis byte. -/
def swingChange (par : Params) (swing : SwingReq) : Byte × Byte :=
  match swing with
  | .off => (par.raw.hswCenter, par.raw.vswCenter)
  | .vertical => (par.raw.hswCenter, par.raw.vswAuto)
  | .horizontal => (par.raw.hswAuto, par.raw.vswCenter)
  | .both => (par.raw.hswAuto, par.raw.vswAuto)

/-- `TempToRaw` (R109): `r = (TEMP + 1) >> 1` exactly, then `(r - 16) mod 256`. -/
def tempToRaw (temp : Byte) : Byte :=
  let r := (temp.toNat + 1) >>> 1
  BitVec.ofInt 8 ((r : Int) - 16)

end Sys2Proof.Machine
end

