-- ==== Sys2Proof/Machine/CommandEncoder.lean ====
section
/-! DEFINITION. The command frame encoder with bit-packing, and the operation REQ_CHANGE
(spec/43_command_encoder.md). -/

namespace Sys2Proof.Machine

/-- The four categories in the order mode, fan, swing, temperature, a later one overwriting what an earlier one
wrote (R103, R111); a category whose presence bit is 0 leaves the working values alone. -/
def applyChanges (par : Params) (mm : ModeMemory) (dsPower : Bool) (mp : Bool) (mode : ModeReq) (fp : Bool)
    (fan : FanReq) (sp : Bool) (swing : SwingReq) (tp : Bool) (temp : Byte) (w : Working) : Working :=
  let w := if mp then modeChange mode dsPower mm w else w
  let w := if fp then { w with fn := fanChange fan w.fn } else w
  let w := if sp then { w with h := (swingChange par swing).1, v := (swingChange par swing).2 } else w
  if tp then { w with sp := tempToRaw temp } else w

/-- `Pack` (R112): a fresh copy of the template with the five field bytes. -/
def pack (par : Params) (w : Working) : Vector Byte 25 :=
  let t := par.raw.ctrlTemplate
  ((((t.set par.raw.ctOffModeFan (packModeFan w.m w.fn)).set
    par.raw.ctOffFlags (packFlags t[par.raw.ctOffFlags] w.p w.pu w.q w.fa)).set
    par.raw.ctOffSetpoint w.sp).set
    par.raw.ctOffHSwing w.h).set
    par.raw.ctOffVSwing w.v

/-- The finalised ControlFrame of the working values (R112, R113). -/
def controlFrame (par : Params) (w : Working) : List Byte := finalize (pack par w).toList

/-- REQ_CHANGE (R103): REJECTED before the first status (R104); nothing sent when no category is present; else
one ControlFrame, seeded from DS and overlaid with the changes (R114). -/
def execReqChange (mp : Bool) (mode : ModeReq) (fp : Bool) (fan : FanReq) (sp : Bool) (swing : SwingReq)
    (tp : Bool) (temp : Byte) (s : State) : Host.Outcome State Fault Refusal :=
  if s.statusValid = false then .next (raiseOutcome .rejected s)
  else
    let d := dsValue s
    let w := applyChanges s.par s.mm d.power mp mode fp fan sp swing tp temp (seed d)
    if (mp || fp || sp || tp) = false then .next (respond (Response.plain .ok false) s)
    else .next (respond (Response.plain .ok true) (txFrame (controlFrame s.par w) s))

end Sys2Proof.Machine
end

