-- ==== Sys2Proof/Machine/HostOps.lean ====
section
/-! DEFINITION. The poll, initialisation and state-read operations (spec/44_host_ops.md). -/

namespace Sys2Proof.Machine

/-- Transmits a fixed frame verbatim and answers OK, never gated by STATUS_VALID (R117, R118). -/
def sendFixed (f : List Byte) (s : State) : State := respond (Response.plain .ok true) (txFrame f s)

/-- SEND_POLL (R117). -/
def execSendPoll (s : State) : Host.Outcome State Fault Refusal := .next (sendFixed Config.pollFrame s)

/-- SEND_INIT1 (R118). -/
def execSendInit1 (s : State) : Host.Outcome State Fault Refusal :=
  .next (sendFixed s.par.raw.initFrame1.toList s)

/-- SEND_INIT2 (R118). -/
def execSendInit2 (s : State) : Host.Outcome State Fault Refusal :=
  .next (sendFixed s.par.raw.initFrame2.toList s)

/-- The response of READ_STATE (R119): the DS fields and the projection only when STATUS_VALID = 1. -/
def readStateResponse (s : State) : Response :=
  { Response.plain .ok false with
    valid := some s.statusValid
    proj := if s.statusValid then some (projection s.par (dsValue s)) else none
    fields := if s.statusValid then some (dsValue s) else none }

/-- READ_STATE (R119). -/
def execReadState (s : State) : Host.Outcome State Fault Refusal := .next (respond (readStateResponse s) s)

end Sys2Proof.Machine
end

