-- ==== Sys2Proof/Machine/Dispatch.lean ====
section
/-! DEFINITION. One arm per constructor of Instr (spec/30_encoding.md R60). -/

namespace Sys2Proof.Machine

def exec (i : Instr) (s : State) : Host.Outcome State Fault Refusal :=
  match i with
  | .process => Sys2Proof.Machine.execProcess s
  | .sendPoll => Sys2Proof.Machine.execSendPoll s
  | .sendInit1 => Sys2Proof.Machine.execSendInit1 s
  | .sendInit2 => Sys2Proof.Machine.execSendInit2 s
  | .reqChange mp mode fp fan sp swing tp temp => Sys2Proof.Machine.execReqChange mp mode fp fan sp swing tp temp s
  | .readState => Sys2Proof.Machine.execReadState s

end Sys2Proof.Machine
end

