-- ==== Sys2Proof/Machine/Step.lean ====
section
/-! DEFINITION. One step of the machine: the next move of the environment's script (spec/00_scope.md R5: each
operation is one atomic step of the block, each arrival one step of the environment). A legal command word runs
its operation; an illegal one raises ILLEGAL_CMD (spec/60_exceptions.md R123). -/

namespace Sys2Proof.Machine

/-- One step. -/
def step (s : State) : Host.Outcome State Fault Refusal :=
  match nextEvent s with
  | none => .next (idle s)
  | some (.arrive b, t) => .next (rxArrive b t)
  | some (.reset, t) => .next (resetBlock t)
  | some (.command w, t) =>
    match decode w with
    | .ok i => exec i t
    | .error _ => .next (raiseOutcome .illegalCmd t)

/-- The command of an opcode-table row, numbered as the table numbers it, lined up as the next move. -/
def State.withFetchWord (s : State) (nbits w : Nat) : State := issueNext (tableWord nbits w) s

end Sys2Proof.Machine
end

