-- ==== Sys2Proof/Safety.lean ====
section
/-! DEFINITION. What a safe state and a safe run are: the invariants that the spec gives every reachable state
between two moves (spec/10_state.md R18, R19, R24; spec/41_assembler.md R87; spec/42_status_decoder.md R99), and
reachability under every binding of the open parameters and every script of the environment. -/

namespace Sys2Proof.Machine

/-- ASM_CNT has the value that R18 gives for ASM_STATE (R19 (a)). -/
def CountMatches (s : State) : Prop :=
  match s.asmState with
  | .seek => s.asmCnt = 0
  | .rd1 => s.asmCnt = 0
  | .rd2 => s.asmCnt = 1
  | .body => 2 ≤ s.asmCnt ∧ s.asmCnt ≤ 46
  | .ready => s.asmCnt = 47

/-- The preamble bytes held are `FF` (R19 (b), (c)). -/
def PreambleHeld (s : State) : Prop :=
  (1 ≤ s.asmCnt → s.rxbuf[0] = Config.preambleByte) ∧ (2 ≤ s.asmCnt → s.rxbuf[1] = Config.preambleByte)

/-- DS holds a value exactly when STATUS_VALID = 1 (R21, R24). -/
def LatchMatches (s : State) : Prop := s.statusValid = s.ds.isSome

/-- Between two operations ASM_STATE is SEEK, RD2 or BODY (R87). -/
def Quiescent (s : State) : Prop := s.asmState = .seek ∨ s.asmState = .rd2 ∨ s.asmState = .body

/-- What R99 (a) and (c) say of a DeviceState. -/
def DeviceStateSane (par : Params) (d : DeviceState) : Prop :=
  d.setpoint.toNat ≤ 14 ∧ 20 ≤ d.curtemp.toNat ∧ d.curtemp.toNat ≤ par.raw.curTempRawMax.toNat
    ∧ d.mode &&& 0x0F = 0

/-- DS, where it holds a value, is sane (R99 (a), (c)). -/
def DsSane (s : State) : Prop := ∀ d, s.ds = some d → DeviceStateSane s.par d

/-- Both setpoints of the mode memory are at most 14 (R99 (b)). -/
def ModeMemoryBounded (s : State) : Prop := s.mm.climSet.toNat ≤ 14 ∧ s.mm.fanSet.toNat ≤ 14

/-- The invariant of the states between two moves. -/
structure State.Inv (s : State) : Prop where
  count : CountMatches s
  preamble : PreambleHeld s
  latch : LatchMatches s
  quiescent : Quiescent s
  dsSane : DsSane s
  mmBounded : ModeMemoryBounded s

/-- A safe state: its step ends in a next state (R120: "Nothing in this core is fatal"). -/
def SafeStep (s : State) : Prop := ∃ t, step s = .next t

/-- The states a run can reach: from reset under any binding of the open parameters and any script of the
environment, by steps. -/
inductive Reachable : State → Prop where
  | start (p : Params) (script : List Event) : Reachable { State.resetWith p with script := script }
  | next {s t : State} : Reachable s → step s = .next t → Reachable t

/-- Two states that differ at most in the bytes of RXBUF that hold no value, those at and beyond ASM_CNT (R20). -/
def AgreeButStale (s t : State) : Prop :=
  (∀ i, (h : i < 47) → i < s.asmCnt → s.rxbuf[i] = t.rxbuf[i]) ∧ { s with rxbuf := t.rxbuf } = t

end Sys2Proof.Machine
end

