-- ==== Sys2Proof/Certificates/Slice0/Obligations.lean ====
section
/-! DEFINITION. The statements for the provers, one definition each, listed in OBLIGATIONS.json. A docstring names
the rule of spec/ that the statement formalises. -/

open Sys2Proof Sys2Proof.Machine

/-! ## Checksums (spec/40_checksum.md) -/

/-- R73: the sum of the bytes at 2 to off-1 modulo 256, or FAIL when the frame is shorter than off. -/
def Obligations.Checksum8IsSumModulo256 : Prop :=
  ∀ (f : List Byte) (off : Nat),
    (f.length < off → checksum8 f off = none) ∧
    (off ≤ f.length →
      ∃ c, checksum8 f off = some c ∧
        c.toNat = ((List.range' 2 (off - 2)).map fun i => (f.getD i 0).toNat).sum % 256)

/-- R74: over an empty range the checksum is 0; an offset computed from byte 2 is never below 2, and 2 exactly
when byte 2 is 0. -/
def Obligations.Checksum8OfEmptyRangeIsZero : Prop :=
  (∀ (f : List Byte) (off : Nat), off ≤ 2 → off ≤ f.length → checksum8 f off = some 0) ∧
  (∀ f : List Byte, 2 ≤ checksumOffset f ∧ (checksumOffset f = 2 ↔ f.getD 2 0 = 0))

/-- R75 (the exact step is from general knowledge, spec/93_implementation_defined.md G1): the CRC byte by byte,
and its value over the poll body and over ASCII "123456789". -/
def Obligations.Crc16FollowsTheReflectedStep : Prop :=
  (∀ c : Crc, crc16 c [] = c) ∧
  (∀ (c : Crc) (b : Byte) (bs : List Byte),
    crc16 c (b :: bs) =
      crc16 ((fun x : Crc => if x.getLsbD 0 then (x >>> 1) ^^^ 0xA001#16 else x >>> 1)^[8] (c ^^^ b.setWidth 16)) bs) ∧
  crc16 0 [0x0A, 0x40, 0x00, 0x00, 0x00, 0x00, 0x00, 0x01, 0x4D, 0x01] = 0xB3B4#16 ∧
  crc16 0 [0x31, 0x32, 0x33, 0x34, 0x35, 0x36, 0x37, 0x38, 0x39] = 0xBB3D#16

/-- R79 (d): the CRC of a concatenation is continued from the CRC of its first part. -/
def Obligations.CrcOfConcatenationContinues : Prop :=
  ∀ (c : Crc) (a b : List Byte), crc16 c (a ++ b) = crc16 (crc16 c a) b

/-- R79 (a): flipping one bit of a byte at 3 to co-1 changes the checksum, so a candidate that passed the receive
check fails it. -/
def Obligations.ChecksumCatchesEverySingleBitFlip : Prop :=
  (∀ (f : List Byte) (i k : Nat), 3 ≤ i → i < checksumOffset f → checksumOffset f ≤ f.length → k < 8 →
    checksum8 (f.set i (f.getD i 0 ^^^ (1#8 <<< k))) (checksumOffset f) ≠ checksum8 f (checksumOffset f)) ∧
  (∀ (buf : Vector Byte 47) (i k : Nat) (h : i < 47), 3 ≤ i → i < checksumOffset buf.toList → k < 8 →
    checksumOK buf = true → checksumOK (buf.set i (buf[i] ^^^ (1#8 <<< k))) = false)

/-- R79 (c): exchanging two bytes of the range never changes the checksum. -/
def Obligations.ChecksumIgnoresByteExchange : Prop :=
  ∀ (f : List Byte) (off i j : Nat), 2 ≤ i → i < off → 2 ≤ j → j < off → off ≤ f.length →
    checksum8 ((f.set i (f.getD j 0)).set j (f.getD i 0)) off = checksum8 f off

/-- R77: the receive check passes exactly when the offset lies in the buffer and the sum equals the byte there; the
bytes after the checksum, the CRC among them, are never read; a zero length byte passes. -/
def Obligations.ReceiveCheckComparesTheSumOnly : Prop :=
  (∀ buf : Vector Byte 47,
    checksumOK buf = true ↔
      buf[2].toNat + 2 ≤ 46 ∧ checksum8 buf.toList (buf[2].toNat + 2) = buf.toList[buf[2].toNat + 2]?) ∧
  (∀ (buf : Vector Byte 47) (i : Nat) (v : Byte) (h : i < 47), buf[2].toNat + 2 < i →
    checksumOK (buf.set i v) = checksumOK buf) ∧
  (∀ buf : Vector Byte 47, buf[2] = 0 → checksumOK buf = true)

/-- R78: where the trailer lies in the frame, Finalize writes the checksum and the two CRC bytes, computed over the
frame as it stands before, leaves every other byte, and gives a frame whose trailer is valid. -/
def Obligations.FinalizeWritesExactlyTheTrailer : Prop :=
  ∀ f : List Byte, checksumOffset f + 2 < f.length →
    (finalize f).length = f.length ∧
    (∀ i, i ≠ checksumOffset f → i ≠ checksumOffset f + 1 → i ≠ checksumOffset f + 2 →
      (finalize f)[i]? = f[i]?) ∧
    (finalize f)[checksumOffset f]? = checksum8 f (checksumOffset f) ∧
    (finalize f)[checksumOffset f + 1]? =
      some ((crc16 0 ((f.take (checksumOffset f)).drop 2)).extractLsb' 8 8) ∧
    (finalize f)[checksumOffset f + 2]? =
      some ((crc16 0 ((f.take (checksumOffset f)).drop 2)).extractLsb' 0 8) ∧
    trailerValid (finalize f) = true

/-! ## The command port (spec/30_encoding.md Part B, spec/60_exceptions.md) -/

/-- R59 to R65, R70: decoding the encoded word of any command gives the command back, every operand at every
value. -/
def Obligations.DecodeOfEncodeIsTheCommand : Prop :=
  ∀ i : Instr, i.wf = true → decode (encode i) = .ok i

/-- R59 to R66: each accepted word is the one encoding of its command, so no bit of it is dropped. -/
def Obligations.EncodeOfDecodeIsTheWord : Prop :=
  ∀ (w : Word) (i : Instr), decode w = .ok i → encode i = w

/-- The decoder accepts exactly the words of spec/opcode_table.json, and no word belongs to two rows. -/
def Obligations.DecoderAcceptsExactlyTheOpcodeTable : Prop :=
  (∀ w : Word, (∃ i, decode w = .ok i) ↔ ∃ r ∈ opcodeTable, w &&& r.mask = r.pattern) ∧
  (∀ (w : Word) (i : Instr), decode w = .ok i → w &&& (opcodeRow i).mask = (opcodeRow i).pattern) ∧
  (∀ r ∈ opcodeTable, ∀ r' ∈ opcodeTable, ∀ w : Word,
    w &&& r.mask = r.pattern → w &&& r'.mask = r'.pattern → r = r')

/-- R60, R61, R70: words written out from the tables of the spec decode to the commands they stand for. -/
def Obligations.SpecWordsDecodeToTheirCommands : Prop :=
  decode 0x00000001 = .ok .process ∧
  decode 0x00000002 = .ok .sendPoll ∧
  decode 0x00000003 = .ok .sendInit1 ∧
  decode 0x00000004 = .ok .sendInit2 ∧
  decode 0x00000006 = .ok .readState ∧
  decode 0x003080B5 = .ok (.reqChange true .cool false .auto false .off true 48) ∧
  decode 0x000070D5 = .ok (.reqChange true .fanOnly false .auto true .both false 0) ∧
  decode 0x00000D05 = .ok (.reqChange false .off true .focus false .off false 0) ∧
  decode 0x00FF0005 = .ok (.reqChange false .off false .auto false .off false 255)

/-- R123: an illegal word answers ILLEGAL_CMD with `sent = 0` and changes nothing else: no state, no RXQ, no TXLOG. The
script and the record of responses are the model's own: log entries 3 and 4. -/
def Obligations.IllegalWordReportsIllegalCmd : Prop :=
  ∀ (s : State) (w : Word) (rest : List Event), s.script = .command w :: rest →
    ((w &&& 0xF#32 = 0x0#32 ∨ 0x7#32 ≤ w &&& 0xF#32) ∨
      (w &&& 0xF#32 = 0x5#32 ∧ w &&& 0xFF000000#32 ≠ 0#32) ∨
      ((w &&& 0xF#32 = 0x1#32 ∨ w &&& 0xF#32 = 0x2#32 ∨ w &&& 0xF#32 = 0x3#32 ∨ w &&& 0xF#32 = 0x4#32
        ∨ w &&& 0xF#32 = 0x6#32) ∧ w &&& 0xFFFFFFF0#32 ≠ 0#32)) →
    step s = .next { s with
      script := rest
      rsplog := s.rsplog ++ [{ status := .illegalCmd, evt := none, sent := false, valid := none, proj := none,
                               fields := none }] }

/-- A step runs the decoded command on the state whose script has moved past it, and does nothing else around it; and
the command of a well-formed instruction placed by withFetchWord is the one that runs (the script is the model's
own: log entry 3). -/
def Obligations.StepRunsTheDecodedCommand : Prop :=
  (∀ (s : State) (w : Word) (rest : List Event) (i : Instr), s.script = .command w :: rest → decode w = .ok i →
    step s = exec i { s with script := rest }) ∧
  (∀ (s : State) (i : Instr), step (s.withFetchWord 32 (encode i).toNat) = exec i s)

/-- R18, R67, R68, R69: the codes of ASM_STATE and of the response fields, in the order of their tables. -/
def Obligations.CodesFollowTheTables : Prop :=
  [AsmState.seek, .rd1, .rd2, .body, .ready].map AsmState.code = [0, 1, 2, 3, 4] ∧
  [Status.ok, .rejected, .illegalCmd].map Status.code = [0, 1, 2] ∧
  [FrameEvt.none, .accepted, .badType, .badChecksum, .badTemp].map FrameEvt.code = [0, 1, 2, 3, 4] ∧
  [ProjMode.off, .heatCool, .heat, .dry, .cool, .fanOnly, .unknown].map ProjMode.code = [0, 1, 3, 4, 5, 6, 7] ∧
  [ProjFan.auto, .low, .medium, .high, .off].map ProjFan.code = [0, 1, 2, 3, 5] ∧
  [ProjSwing.off, .vertical, .horizontal, .both].map ProjSwing.code = [0, 1, 2, 3]

/-! ## The environment and reset (spec/10_state.md R29, R31, spec/70_reset_and_hazards.md) -/

/-- The arrival of a byte appends it to RXQ and changes nothing else (R29 (a)); with no move lined up the block holds
its state (R132). The script is the model's own: log entry 3. -/
def Obligations.ArrivalAppendsAndIdleHolds : Prop :=
  (∀ (s : State) (b : Byte) (rest : List Event), s.script = .arrive b :: rest →
    step s = .next { s with script := rest, rxq := s.rxq ++ [b] }) ∧
  (∀ s : State, s.script = [] → step s = .next s)

/-- R31, R133: the reset input puts every element of the block that has a reset value at it, and leaves RXQ and TXLOG
alone. RXBUF, which the rule leaves unspecified, is not spoken of. The script is the model's own: log entry 3. -/
def Obligations.ResetInputSetsTheBlockOnly : Prop :=
  ∀ (s : State) (rest : List Event), s.script = .reset :: rest →
    ∃ t, step s = .next t ∧
      t.asmState = .seek ∧ t.asmCnt = 0 ∧ t.statusValid = false ∧ t.ds = none ∧
      t.mm = { climFan := 0x5, climSet := 0x0A, fanFan := 0x1, fanSet := 0x08 } ∧
      t.rxq = s.rxq ∧ t.txlog = s.txlog ∧ t.rsplog = s.rsplog ∧ t.par = s.par ∧ t.script = rest

/-- R31 for the machine's first state. -/
def Obligations.ResetStateHoldsSpecValues : Prop :=
  State.reset.asmState = .seek ∧ State.reset.asmState.code = 0 ∧ State.reset.asmCnt = 0 ∧
  State.reset.statusValid = false ∧ State.reset.ds = none ∧
  State.reset.mm = { climFan := 0x5, climSet := 0x0A, fanFan := 0x1, fanSet := 0x08 }

/-- R8, R51, R52: the block starts, at its reset values, exactly for the parameter sets that meet every constraint of
these rules; every other set is refused by name. For the constraints of R8 alone the refusal is the model's choice (log
entry 19). -/
def Obligations.ParametersAreAdmittedByTheirConstraints : Prop :=
  ∀ raw : Config.RawParams,
    let st := [raw.stOffModeFan, raw.stOffFlags, raw.stOffSetpoint, raw.stOffCurTemp, raw.stOffHSwing, raw.stOffVSwing]
    let ct := [raw.ctOffModeFan, raw.ctOffFlags, raw.ctOffSetpoint, raw.ctOffHSwing, raw.ctOffVSwing]
    let good : Prop :=
      (∀ i ∈ st, (3 ≤ i.val ∧ i.val ≤ 8) ∨ (10 ≤ i.val ∧ i.val ≤ 43)) ∧ st.Nodup ∧
      (∀ i ∈ ct, (3 ≤ i.val ∧ i.val ≤ 8) ∨ (10 ≤ i.val ∧ i.val ≤ 21)) ∧ ct.Nodup ∧
      raw.hswCenter ≠ raw.hswAuto ∧ raw.vswCenter ≠ raw.vswAuto ∧
      raw.ctrlTemplate[0] = 0xFF ∧ raw.ctrlTemplate[1] = 0xFF ∧ raw.ctrlTemplate[2] = 0x14 ∧
      (∀ f ∈ [raw.initFrame1, raw.initFrame2],
        f[0] = 0xFF ∧ f[1] = 0xFF ∧ f[2] = 0x08 ∧ checksum8 f.toList 10 = some f[10] ∧
        f[11] = (crc16 0 ((f.toList.take 10).drop 2)).extractLsb' 8 8 ∧
        f[12] = (crc16 0 ((f.toList.take 10).drop 2)).extractLsb' 0 8) ∧
      (raw.curTempRawMax = 100 ∨ raw.curTempRawMax = 101)
    (good → ∃ h : raw.wf = true, powerOn raw = .next (State.resetWith ⟨raw, h⟩)) ∧
    (¬ good → powerOn raw = .refused .badParameters)

/-! ## The assembler (spec/41_assembler.md) -/

/-- R81: the transition table, row by row. -/
def Obligations.AssemblerTransitionTable : Prop :=
  (∀ s : State, s.rxq = [] → s.asmState ≠ .ready → asmStep s = s) ∧
  (∀ s : State, s.rxq ≠ [] → s.asmState = .seek → asmStep s = { s with asmState := .rd1 }) ∧
  (∀ (s : State) (b : Byte) (q : List Byte), s.rxq = b :: q →
    (s.asmState = .rd1 → b = 0xFF →
      asmStep s = { s with rxq := q, rxbuf := s.rxbuf.set 0 0xFF, asmCnt := 1, asmState := .rd2 }) ∧
    (s.asmState = .rd1 → b ≠ 0xFF → asmStep s = { s with rxq := q, asmState := .seek }) ∧
    (s.asmState = .rd2 → b = 0xFF →
      asmStep s = { s with rxq := q, rxbuf := s.rxbuf.set 1 0xFF, asmCnt := 2, asmState := .body }) ∧
    (s.asmState = .rd2 → b ≠ 0xFF → asmStep s = { s with rxq := q, asmCnt := 0, asmState := .seek }) ∧
    (s.asmState = .body → (h : s.asmCnt < 47) →
      asmStep s = { s with
        rxq := q
        rxbuf := s.rxbuf.set s.asmCnt b
        asmCnt := s.asmCnt + 1
        asmState := if s.asmCnt + 1 = 47 then .ready else .body }))

/-- R84: the candidate in READY is judged by type first, then by Validate; an accepted one updates DS, MM and the
latch; whatever the outcome, the assembler returns to SEEK with count 0. -/
def Obligations.FrameReadyEvalJudgesTypeThenValidates : Prop :=
  ∀ s : State,
    (s.rxbuf[9] ≠ 0x02 → frameReadyEval s = ({ s with asmCnt := 0, asmState := .seek }, .badType)) ∧
    (s.rxbuf[9] = 0x02 → validate s.par s.rxbuf = .accepted →
      frameReadyEval s = ({ acceptUpdate s with asmCnt := 0, asmState := .seek }, .accepted)) ∧
    (s.rxbuf[9] = 0x02 → validate s.par s.rxbuf ≠ .accepted →
      frameReadyEval s = ({ s with asmCnt := 0, asmState := .seek }, validate s.par s.rxbuf))

/-- R86, the loop: evaluate in READY and leave, leave with NONE when no byte is available, else make one transition
and go round again. -/
def Obligations.ProcessRunsThePseudocodeLoop : Prop :=
  (∀ s : State, s.asmState = .ready → processRun s = frameReadyEval s) ∧
  (∀ s : State, s.asmState ≠ .ready → s.rxq = [] → processRun s = (s, .none)) ∧
  (∀ s : State, s.asmState ≠ .ready → s.rxq ≠ [] → processRun s = processRun (asmStep s)) ∧
  (∀ s : State, exec .process s =
    .next { (processRun s).1 with
      rsplog := (processRun s).1.rsplog ++
        [{ status := .ok, evt := some (processRun s).2, sent := false, valid := none,
           proj := if (processRun s).2 = .accepted then
             some (projection (processRun s).1.par (dsValue (processRun s).1)) else none,
           fields := none }] })

/-- R88: with k bytes in RXQ the loop needs at most 2k + 1 calls, in every state: more fuel gives the same answer, and
the answer is a genuine exit of the loop. -/
def Obligations.ProcessEndsWithinTwoCallsPerByte : Prop :=
  ∀ (s : State) (n : Nat), 2 * s.rxq.length + 1 ≤ n →
    processLoop n s = processRun s ∧
    ((processRun s).2 = .none → (processRun s).1.rxq = [] ∧ (processRun s).1.asmState ≠ .ready) ∧
    ((processRun s).2 ≠ .none → (processRun s).1.asmState = .seek ∧ (processRun s).1.asmCnt = 0)

/-- R86: in every state PROCESS completes with status OK and sends nothing; it consumes from the head of RXQ only;
it leaves TXLOG, the script and the parameters; it answers NONE only when RXQ is empty; a rejected candidate and NONE
leave DS, MM and STATUS_VALID; an accepted one replaces all three from the frame in RXBUF and answers its
projection. -/
def Obligations.ProcessOutcomeAndFrame : Prop :=
  ∀ s : State, ∃ (t : State) (e : FrameEvt) (pr : Option Projection),
    exec .process s = .next t ∧
    t.rsplog = s.rsplog ++
      [{ status := .ok, evt := some e, sent := false, valid := none, proj := pr, fields := none }] ∧
    t.txlog = s.txlog ∧ t.script = s.script ∧ t.par = s.par ∧
    (∃ used, s.rxq = used ++ t.rxq) ∧
    (e = .none → t.rxq = [] ∧ t.asmState ≠ .ready) ∧
    (e ≠ .none → t.asmState = .seek ∧ t.asmCnt = 0) ∧
    (e ≠ .accepted → t.ds = s.ds ∧ t.mm = s.mm ∧ t.statusValid = s.statusValid ∧ pr = none) ∧
    (e = .accepted →
      t.ds = some (statusDecode s.par t.rxbuf) ∧ t.mm = mmUpdate (statusDecode s.par t.rxbuf) s.mm ∧
      t.statusValid = true ∧ pr = some (projection s.par (statusDecode s.par t.rxbuf)))

/-- R81, R84, R86: from SEEK, noise without an `FF` is discarded, and the next 47 bytes that begin with the preamble
are judged as one candidate, whole and in arrival order, however many bytes follow. -/
def Obligations.WholeFrameIsCollectedAndJudged : Prop :=
  ∀ (s : State) (noise : List Byte) (f : Vector Byte 47) (rest : List Byte),
    s.asmState = .seek → (∀ b ∈ noise, b ≠ 0xFF) → f[0] = 0xFF → f[1] = 0xFF →
    s.rxq = noise ++ (f.toList ++ rest) →
    processRun s = frameReadyEval { s with asmState := .ready, asmCnt := 47, rxbuf := f, rxq := rest }

/-- R82: when the second byte is not `FF`, discarding it and rescanning it give the same result. -/
def Obligations.RescanningARejectedByteChangesNothing : Prop :=
  ∀ (s : State) (b : Byte) (q : List Byte), s.asmState = .rd2 → s.rxq = b :: q → b ≠ 0xFF →
    processRun s = processRun { s with asmState := .seek, asmCnt := 0 }

/-- R19 (d), R86 (FrameTruncated): fewer than 47 bytes of a candidate are consumed and held in arrival order; the
answer is NONE and nothing decoded changes. -/
def Obligations.PartialFrameIsHeldInOrder : Prop :=
  ∀ (s : State) (body : List Byte), s.asmState = .seek → body.length < 45 → s.rxq = 0xFF :: 0xFF :: body →
    ∃ t, exec .process s = .next t ∧
      t.asmState = .body ∧ t.asmCnt = 2 + body.length ∧ t.rxq = [] ∧
      (∀ i, (h : i < 47) → i < 2 + body.length → some t.rxbuf[i] = (0xFF :: 0xFF :: body)[i]?) ∧
      t.ds = s.ds ∧ t.mm = s.mm ∧ t.statusValid = s.statusValid ∧ t.txlog = s.txlog ∧
      t.rsplog = s.rsplog ++
        [{ status := .ok, evt := some .none, sent := false, valid := none, proj := none, fields := none }]

/-- R89: how arrivals interleave with PROCESS does not matter. A PROCESS that answered NONE leaves a state from which
the bytes that arrive later are processed as if they had been there before; a PROCESS that evaluated a candidate
would have evaluated the same one, to the same state, with those bytes waiting behind. -/
def Obligations.ChunkedArrivalDoesNotMatter : Prop :=
  ∀ (s : State) (later : List Byte),
    ((processRun s).2 = .none →
      processRun { (processRun s).1 with rxq := (processRun s).1.rxq ++ later } =
        processRun { s with rxq := s.rxq ++ later }) ∧
    ((processRun s).2 ≠ .none →
      processRun { s with rxq := s.rxq ++ later } =
        ({ (processRun s).1 with rxq := (processRun s).1.rxq ++ later }, (processRun s).2))

/-- R20, R85: the bytes of RXBUF that hold no value are never read. Two states that meet R19 (a) and differ in such
bytes only step to states that again differ in such bytes only. The value the model gives RXBUF at reset (log entry
5) can therefore never show. -/
def Obligations.StaleReceiveBytesNeverShow : Prop :=
  ∀ s t : State, CountMatches s → AgreeButStale s t →
    ∃ s' t', step s = .next s' ∧ step t = .next t' ∧ AgreeButStale s' t'

/-! ## The status decoder (spec/42_status_decoder.md) -/

/-- R93: the checksum is checked first, then the temperatures. -/
def Obligations.ValidateChecksChecksumThenTemperatures : Prop :=
  ∀ (par : Params) (buf : Vector Byte 47),
    (checksumOK buf = false → validate par buf = .badChecksum) ∧
    (checksumOK buf = true → plausible par (statusDecode par buf) = false → validate par buf = .badTemp) ∧
    (checksumOK buf = true → plausible par (statusDecode par buf) = true → validate par buf = .accepted)

/-- R94, with R91 and R92: the raw bounds; with CUR_TEMP_RAW_MAX = 100 they are [10, 50] and [16, 30] degrees, exact;
with 101 they are the reading under truncating division. -/
def Obligations.PlausibleMeansTemperaturesInRange : Prop :=
  ∀ (par : Params) (d : DeviceState),
    (plausible par d = true ↔
      20 ≤ d.curtemp.toNat ∧ d.curtemp.toNat ≤ par.raw.curTempRawMax.toNat ∧ d.setpoint.toNat ≤ 14) ∧
    (par.raw.curTempRawMax = 100 →
      (plausible par d = true ↔
        10 ≤ currentTemperature d.curtemp ∧ currentTemperature d.curtemp ≤ 50 ∧
        16 ≤ targetTemperature d.setpoint ∧ targetTemperature d.setpoint ≤ 30)) ∧
    (par.raw.curTempRawMax = 101 →
      (plausible par d = true ↔
        10 ≤ d.curtemp.toNat / 2 ∧ d.curtemp.toNat / 2 ≤ 50 ∧ targetTemperature d.setpoint ≤ 30))

/-- R95: every field of DS from its byte and its bits; bits 2, 5, 6 and 7 of the flags byte do not matter. -/
def Obligations.StatusDecodeUnpacksItsBytes : Prop :=
  ∀ (par : Params) (buf : Vector Byte 47),
    (statusDecode par buf).power = buf[par.raw.stOffFlags].toNat.testBit 0 ∧
    (statusDecode par buf).purify = buf[par.raw.stOffFlags].toNat.testBit 1 ∧
    (statusDecode par buf).quiet = buf[par.raw.stOffFlags].toNat.testBit 3 ∧
    (statusDecode par buf).fast = buf[par.raw.stOffFlags].toNat.testBit 4 ∧
    (statusDecode par buf).mode.toNat = buf[par.raw.stOffModeFan].toNat / 16 * 16 ∧
    (statusDecode par buf).fan.toNat = buf[par.raw.stOffModeFan].toNat % 16 ∧
    (statusDecode par buf).setpoint = buf[par.raw.stOffSetpoint] ∧
    (statusDecode par buf).curtemp = buf[par.raw.stOffCurTemp] ∧
    (statusDecode par buf).hswing = buf[par.raw.stOffHSwing] ∧
    (statusDecode par buf).vswing = buf[par.raw.stOffVSwing]

/-- R96: acceptance replaces DS wholesale, refreshes MM and sets the latch, and writes nothing else; and a candidate
that passes all three checks is accepted in the one step of the PROCESS that completes it, which changes nothing else
but the assembler and the answer. -/
def Obligations.AcceptedFrameReplacesDeviceState : Prop :=
  (∀ s : State, acceptUpdate s = { s with
      ds := some (statusDecode s.par s.rxbuf)
      mm := mmUpdate (statusDecode s.par s.rxbuf) s.mm
      statusValid := true }) ∧
  ∀ (s : State) (f : Vector Byte 47) (rest : List Byte),
    s.asmState = .seek → f[0] = 0xFF → f[1] = 0xFF → s.rxq = f.toList ++ rest →
    f[9] = 0x02 → checksumOK f = true → plausible s.par (statusDecode s.par f) = true →
    exec .process s = .next { s with
      rxq := rest
      rxbuf := f
      asmCnt := 0
      asmState := .seek
      ds := some (statusDecode s.par f)
      mm := mmUpdate (statusDecode s.par f) s.mm
      statusValid := true
      rsplog := s.rsplog ++
        [{ status := .ok, evt := some .accepted, sent := false, valid := none,
           proj := some { mode := projMode (statusDecode s.par f), fan := projFan (statusDecode s.par f),
                          swing := projSwing s.par (statusDecode s.par f) },
           fields := none }] }

/-- R97, R124 (3): a rejected candidate changes no field of DS, MM or STATUS_VALID, only ASM_STATE and ASM_CNT; the
first failing check of type, checksum and temperature is the one reported. -/
def Obligations.RejectedFrameLeavesDeviceState : Prop :=
  (∀ s : State, (frameReadyEval s).2 ≠ .accepted →
    (frameReadyEval s).1 = { s with asmState := .seek, asmCnt := 0 }) ∧
  ∀ (s : State) (f : Vector Byte 47) (rest : List Byte) (e : FrameEvt),
    s.asmState = .seek → f[0] = 0xFF → f[1] = 0xFF → s.rxq = f.toList ++ rest →
    ((f[9] ≠ 0x02 ∧ e = .badType) ∨ (f[9] = 0x02 ∧ checksumOK f = false ∧ e = .badChecksum) ∨
      (f[9] = 0x02 ∧ checksumOK f = true ∧ plausible s.par (statusDecode s.par f) = false ∧ e = .badTemp)) →
    exec .process s = .next { s with
      rxq := rest
      rxbuf := f
      asmCnt := 0
      asmState := .seek
      rsplog := s.rsplog ++
        [{ status := .ok, evt := some e, sent := false, valid := none, proj := none, fields := none }] }

/-- R98: mode Fan refreshes the fan-only slot, every other mode code the climate slot; the other slot keeps its
values. -/
def Obligations.ModeMemoryRefreshesOneSlot : Prop :=
  ∀ (d : DeviceState) (mm : ModeMemory),
    (d.mode = 0xC0 →
      mmUpdate d mm = { climFan := mm.climFan, climSet := mm.climSet, fanFan := d.fan, fanSet := d.setpoint }) ∧
    (d.mode ≠ 0xC0 →
      mmUpdate d mm = { climFan := d.fan, climSet := d.setpoint, fanFan := mm.fanFan, fanSet := mm.fanSet })

/-- R100: the reported mode. -/
def Obligations.ProjectedModeTable : Prop :=
  ∀ d : DeviceState,
    (d.power = false → projMode d = .off) ∧
    (d.power = true →
      (d.mode = 0x00 → projMode d = .heatCool) ∧ (d.mode = 0x20 → projMode d = .cool) ∧
      (d.mode = 0x40 → projMode d = .dry) ∧ (d.mode = 0x80 → projMode d = .heat) ∧
      (d.mode = 0xC0 → projMode d = .fanOnly) ∧
      (d.mode ∉ [0x00#8, 0x20#8, 0x40#8, 0x80#8, 0xC0#8] → projMode d = .unknown))

/-- R101: the reported fan level; quiet before fast before the fan code; an unknown code is Auto. -/
def Obligations.ProjectedFanTable : Prop :=
  ∀ d : DeviceState,
    (d.power = false → projFan d = .off) ∧
    (d.power = true → d.quiet = true → projFan d = .low) ∧
    (d.power = true → d.quiet = false → d.fast = true → projFan d = .high) ∧
    (d.power = true → d.quiet = false → d.fast = false →
      (d.fan = 0x5 → projFan d = .auto) ∧ (d.fan = 0x3 → projFan d = .low) ∧ (d.fan = 0x2 → projFan d = .medium) ∧
      (d.fan = 0x1 → projFan d = .high) ∧ (d.fan ∉ [0x5#4, 0x3#4, 0x2#4, 0x1#4] → projFan d = .auto))

/-- R102: the reported swing; only the two Auto codes count. -/
def Obligations.ProjectedSwingTable : Prop :=
  ∀ (par : Params) (d : DeviceState),
    (d.power = false → projSwing par d = .off) ∧
    (d.power = true →
      (d.hswing = par.raw.hswAuto → d.vswing = par.raw.vswAuto → projSwing par d = .both) ∧
      (d.hswing = par.raw.hswAuto → d.vswing ≠ par.raw.vswAuto → projSwing par d = .horizontal) ∧
      (d.hswing ≠ par.raw.hswAuto → d.vswing = par.raw.vswAuto → projSwing par d = .vertical) ∧
      (d.hswing ≠ par.raw.hswAuto → d.vswing ≠ par.raw.vswAuto → projSwing par d = .off))

/-! ## The command encoder (spec/43_command_encoder.md) -/

/-- R104: before the first status REQ_CHANGE is REJECTED, whatever its fields hold, transmits nothing and changes no
state. -/
def Obligations.RequestBeforeFirstStatusIsRejected : Prop :=
  ∀ (s : State) (mp : Bool) (mode : ModeReq) (fp : Bool) (fan : FanReq) (sp : Bool) (swing : SwingReq) (tp : Bool)
    (temp : Byte), s.statusValid = false →
    exec (.reqChange mp mode fp fan sp swing tp temp) s = .next { s with
      rsplog := s.rsplog ++
        [{ status := .rejected, evt := none, sent := false, valid := none, proj := none, fields := none }] }

/-- R114: with a status held, exactly one frame of 25 bytes, a finalised ControlFrame, is transmitted when at least one
category is present, and none when all four are absent; either way the answer is OK and nothing else changes, no
element of the block and neither RXQ nor the parameters. -/
def Obligations.RequestTransmitsOneFrameOrNone : Prop :=
  ∀ (s : State) (mp : Bool) (mode : ModeReq) (fp : Bool) (fan : FanReq) (sp : Bool) (swing : SwingReq) (tp : Bool)
    (temp : Byte), s.statusValid = true →
    ((mp = true ∨ fp = true ∨ sp = true ∨ tp = true) →
      ∃ f : List Byte, f.length = 25 ∧ (∃ w : Working, f = controlFrame s.par w) ∧
        exec (.reqChange mp mode fp fan sp swing tp temp) s = .next { s with
          txlog := s.txlog ++ [f]
          rsplog := s.rsplog ++
            [{ status := .ok, evt := none, sent := true, valid := none, proj := none, fields := none }] }) ∧
    (mp = false → fp = false → sp = false → tp = false →
      exec (.reqChange mp mode fp fan sp swing tp temp) s = .next { s with
        rsplog := s.rsplog ++
          [{ status := .ok, evt := none, sent := false, valid := none, proj := none, fields := none }] })

/-- R105, R106, R107, R108, R110, R111: what the transmitted frame carries at its five field bytes. Every field the
request does not touch is as DS holds it; a mode request restores fan and setpoint from its slot of MM; an explicit
fan or temperature request overrides the restored value. -/
def Obligations.RequestFrameCarriesSeedMemoryAndChanges : Prop :=
  ∀ (s : State) (d : DeviceState) (mp : Bool) (mode : ModeReq) (fp : Bool) (fan : FanReq) (sp : Bool)
    (swing : SwingReq) (tp : Bool) (temp : Byte),
    s.statusValid = true → s.ds = some d → (mp = true ∨ fp = true ∨ sp = true ∨ tp = true) →
    ∃ (t : State) (f : List Byte),
      exec (.reqChange mp mode fp fan sp swing tp temp) s = .next t ∧ t.txlog = s.txlog ++ [f] ∧
      f[s.par.raw.ctOffSetpoint.val]? = some (
        if tp then tempToRaw temp
        else if mp then
          (match mode with
            | .off => d.setpoint
            | .heatCool | .auto | .heat | .dry | .cool => s.mm.climSet
            | .fanOnly => s.mm.fanSet
            | .m7 => d.setpoint)
        else d.setpoint) ∧
      f[s.par.raw.ctOffModeFan.val]? = some (
        (if mp then
          (match mode with
            | .off => d.mode
            | .heatCool | .auto => 0x00
            | .heat => 0x80
            | .dry => 0x40
            | .cool => 0x20
            | .fanOnly => 0xC0
            | .m7 => d.mode)
        else d.mode) |||
        BitVec.setWidth 8 (
          let restored : Nibble :=
            if mp then
              (match mode with
                | .off => d.fan
                | .heatCool | .auto | .heat | .dry | .cool => s.mm.climFan
                | .fanOnly => s.mm.fanFan
                | .m7 => d.fan)
            else d.fan
          if fp then
            (match fan with
              | .auto => 0x5
              | .low => 0x3
              | .medium => 0x2
              | .high => 0x1
              | .on | .off | .focus | .diffuse => restored)
          else restored)) ∧
      f[s.par.raw.ctOffHSwing.val]? = some (
        if sp then
          (match swing with
            | .off | .vertical => s.par.raw.hswCenter
            | .horizontal | .both => s.par.raw.hswAuto)
        else d.hswing) ∧
      f[s.par.raw.ctOffVSwing.val]? = some (
        if sp then
          (match swing with
            | .off | .horizontal => s.par.raw.vswCenter
            | .vertical | .both => s.par.raw.vswAuto)
        else d.vswing) ∧
      ∃ fl : Byte, f[s.par.raw.ctOffFlags.val]? = some fl ∧
        fl.getLsbD 0 = (
          if mp then
            (match mode with
              | .off => !d.power
              | .heatCool | .auto | .heat | .dry | .cool | .fanOnly => true
              | .m7 => d.power)
          else d.power) ∧
        fl.getLsbD 1 = d.purify ∧ fl.getLsbD 3 = d.quiet ∧ fl.getLsbD 4 = d.fast

/-- R106: the mode table, from working values to working values. -/
def Obligations.ModeChangeTable : Prop :=
  ∀ (dsPower : Bool) (mm : ModeMemory) (w : Working),
    modeChange .off dsPower mm w = { w with p := !dsPower } ∧
    modeChange .heatCool dsPower mm w = { w with p := true, m := 0x00, fn := mm.climFan, sp := mm.climSet } ∧
    modeChange .auto dsPower mm w = { w with p := true, m := 0x00, fn := mm.climFan, sp := mm.climSet } ∧
    modeChange .heat dsPower mm w = { w with p := true, m := 0x80, fn := mm.climFan, sp := mm.climSet } ∧
    modeChange .dry dsPower mm w = { w with p := true, m := 0x40, fn := mm.climFan, sp := mm.climSet } ∧
    modeChange .cool dsPower mm w = { w with p := true, m := 0x20, fn := mm.climFan, sp := mm.climSet } ∧
    modeChange .fanOnly dsPower mm w = { w with p := true, m := 0xC0, fn := mm.fanFan, sp := mm.fanSet } ∧
    modeChange .m7 dsPower mm w = w

/-- R109: halves round up, and a value below 16 degrees wraps modulo 256; the rule's own examples. -/
def Obligations.TempToRawRoundsAndWraps : Prop :=
  (∀ temp : Byte, (tempToRaw temp).toNat = ((temp.toNat + 1) / 2 + 240) % 256) ∧
  (∀ temp : Byte, 31 ≤ temp.toNat → 2 * (16 + (tempToRaw temp).toNat) = temp.toNat + temp.toNat % 2) ∧
  tempToRaw 30 = 0xFF ∧ tempToRaw 0 = 0xF0 ∧ tempToRaw 44 = 0x06 ∧ tempToRaw 45 = 0x07 ∧ tempToRaw 43 = 0x06

/-- R112: the packed frame is the template but for the five field bytes: mode and fan share one byte, the four flag
bits are the working values', and bits 2, 5, 6 and 7 of the flags byte are the template's. -/
def Obligations.PackPutsFieldsIntoTheTemplate : Prop :=
  ∀ (par : Params) (w : Working),
    (pack par w)[par.raw.ctOffModeFan] = w.m ||| w.fn.setWidth 8 ∧
    (∀ k, k < 8 → (pack par w)[par.raw.ctOffFlags].getLsbD k =
      if k = 0 then w.p else if k = 1 then w.pu else if k = 3 then w.q else if k = 4 then w.fa
      else par.raw.ctrlTemplate[par.raw.ctOffFlags].getLsbD k) ∧
    (pack par w)[par.raw.ctOffSetpoint] = w.sp ∧
    (pack par w)[par.raw.ctOffHSwing] = w.h ∧
    (pack par w)[par.raw.ctOffVSwing] = w.v ∧
    (∀ i : Fin 25, i ≠ par.raw.ctOffModeFan → i ≠ par.raw.ctOffFlags → i ≠ par.raw.ctOffSetpoint →
      i ≠ par.raw.ctOffHSwing → i ≠ par.raw.ctOffVSwing → (pack par w)[i] = par.raw.ctrlTemplate[i])

/-- R113: the finalised ControlFrame: bytes 0 to 21 as packed, then the checksum and the CRC, high byte first, over
bytes 2 to 21 of the packed frame. -/
def Obligations.ControlFrameIsFinalised : Prop :=
  ∀ (par : Params) (w : Working),
    (controlFrame par w).length = 25 ∧
    (∀ i, i < 22 → (controlFrame par w)[i]? = (pack par w).toList[i]?) ∧
    (controlFrame par w)[22]? = checksum8 (pack par w).toList 22 ∧
    (controlFrame par w)[23]? = some ((crc16 0 (((pack par w).toList.take 22).drop 2)).extractLsb' 8 8) ∧
    (controlFrame par w)[24]? = some ((crc16 0 (((pack par w).toList.take 22).drop 2)).extractLsb' 0 8)

/-- R61: a value field whose presence bit is 0 is ignored; and MODE = 2 (AUTO) is handled exactly as MODE = 1
(R62, R106; spec/90_conflicts.md C1). -/
def Obligations.AbsentOperandsIgnoredAndAutoIsHeatCool : Prop :=
  ∀ (s : State) (mp : Bool) (mode mode' : ModeReq) (fp : Bool) (fan fan' : FanReq) (sp : Bool)
    (swing swing' : SwingReq) (tp : Bool) (temp temp' : Byte),
    exec (.reqChange mp mode fp fan sp swing tp temp) s =
      exec (.reqChange mp (if mp then mode else mode') fp (if fp then fan else fan') sp (if sp then swing else swing')
        tp (if tp then temp else temp')) s ∧
    exec (.reqChange mp .auto fp fan sp swing tp temp) s = exec (.reqChange mp .heatCool fp fan sp swing tp temp) s

/-- R138, R139: requests do not accumulate. A second request transmits, after a first one, exactly what it would have
transmitted without it, so two toggles send the same power bit. -/
def Obligations.RequestsDoNotAccumulate : Prop :=
  ∀ (s t u : State) (mp : Bool) (mode : ModeReq) (fp : Bool) (fan : FanReq) (sp : Bool) (swing : SwingReq) (tp : Bool)
    (temp : Byte) (mp' : Bool) (mode' : ModeReq) (fp' : Bool) (fan' : FanReq) (sp' : Bool) (swing' : SwingReq)
    (tp' : Bool) (temp' : Byte),
    LatchMatches s →
    exec (.reqChange mp mode fp fan sp swing tp temp) s = .next t →
    exec (.reqChange mp' mode' fp' fan' sp' swing' tp' temp') s = .next u →
    ∃ v, exec (.reqChange mp' mode' fp' fan' sp' swing' tp' temp') t = .next v ∧
      v.txlog = t.txlog ++ u.txlog.drop s.txlog.length

/-- R116 (c): the mode-memory round trip. A climate frame A, then a fan-only frame B are accepted; a Heat request
then carries A's fan code and setpoint, with power on, not B's. -/
def Obligations.ModeMemoryRoundTrip : Prop :=
  ∀ (s : State) (a b : Vector Byte 47) (rest : List Byte),
    s.asmState = .seek → s.rxq = a.toList ++ (b.toList ++ rest) →
    a[0] = 0xFF → a[1] = 0xFF → frameVerdict s.par a = .accepted →
    b[0] = 0xFF → b[1] = 0xFF → frameVerdict s.par b = .accepted →
    a[s.par.raw.stOffModeFan] &&& 0xF0 ≠ 0xC0 → b[s.par.raw.stOffModeFan] &&& 0xF0 = 0xC0 →
    ∃ (s1 s2 s3 : State) (f : List Byte),
      exec .process s = .next s1 ∧ exec .process s1 = .next s2 ∧
      exec (.reqChange true .heat false .auto false .off false 0) s2 = .next s3 ∧
      s3.txlog = s.txlog ++ [f] ∧
      f[s.par.raw.ctOffModeFan.val]? = some (0x80 ||| (a[s.par.raw.stOffModeFan] &&& 0x0F)) ∧
      f[s.par.raw.ctOffSetpoint.val]? = some a[s.par.raw.stOffSetpoint] ∧
      ∃ fl : Byte, f[s.par.raw.ctOffFlags.val]? = some fl ∧ fl.getLsbD 0 = true

/-! ## Poll, initialisation and state read (spec/44_host_ops.md) -/

/-- R117: SEND_POLL transmits the literal PollFrame, unmodified, in every state, and changes nothing else. -/
def Obligations.SendPollTransmitsThePollFrame : Prop :=
  ∀ s : State, exec .sendPoll s = .next { s with
    txlog := s.txlog ++
      [[0xFF, 0xFF, 0x0A, 0x40, 0x00, 0x00, 0x00, 0x00, 0x00, 0x01, 0x4D, 0x01, 0x99, 0xB3, 0xB4]]
    rsplog := s.rsplog ++
      [{ status := .ok, evt := none, sent := true, valid := none, proj := none, fields := none }] }

/-- R118: SEND_INIT1 and SEND_INIT2 transmit their InitFrames of 13 bytes verbatim, in any order and any number of
times, and change nothing else. -/
def Obligations.SendInitTransmitsItsFrame : Prop :=
  ∀ s : State,
    exec .sendInit1 s = .next { s with
      txlog := s.txlog ++ [s.par.raw.initFrame1.toList]
      rsplog := s.rsplog ++
        [{ status := .ok, evt := none, sent := true, valid := none, proj := none, fields := none }] } ∧
    exec .sendInit2 s = .next { s with
      txlog := s.txlog ++ [s.par.raw.initFrame2.toList]
      rsplog := s.rsplog ++
        [{ status := .ok, evt := none, sent := true, valid := none, proj := none, fields := none }] }

/-- R119: READ_STATE answers the latch, and the DS fields and the projection only while it is set; it changes nothing
else. -/
def Obligations.ReadStateAnswersDeviceState : Prop :=
  ∀ s : State,
    (s.statusValid = false → exec .readState s = .next { s with
      rsplog := s.rsplog ++
        [{ status := .ok, evt := none, sent := false, valid := some false, proj := none, fields := none }] }) ∧
    (∀ d, s.statusValid = true → s.ds = some d → exec .readState s = .next { s with
      rsplog := s.rsplog ++
        [{ status := .ok, evt := none, sent := false, valid := some true,
           proj := some { mode := projMode d, fan := projFan d, swing := projSwing s.par d },
           fields := some d }] })

/-! ## The whole machine -/

/-- R120: nothing is fatal. From every state, reachable or not, a step ends in a next state, never in a fault or a
refusal. -/
def Obligations.NothingIsFatal : Prop :=
  ∀ s : State, SafeStep s

/-- R23, R26, R97, R115: DS, MM and STATUS_VALID change only by reset or in a PROCESS that answers ACCEPTED. -/
def Obligations.OnlyAcceptanceOrResetChangesDeviceState : Prop :=
  ∀ s t : State, step s = .next t →
    (t.ds = s.ds ∧ t.mm = s.mm ∧ t.statusValid = s.statusValid) ∨
    (∃ rest, s.script = .reset :: rest) ∨
    (∃ (rest : List Event) (r : Response), s.script = .command 0x00000001 :: rest ∧ t.rsplog = s.rsplog ++ [r] ∧
      r.evt = some .accepted ∧ t.statusValid = true)

/-- R21: STATUS_VALID is 0 from reset, a PROCESS that accepts a frame sets it, and no step but the reset input clears
it. -/
def Obligations.FirstStatusLatchIsPermanent : Prop :=
  (∀ p : Params, (State.resetWith p).statusValid = false) ∧
  (∀ s t : State, step s = .next t → s.statusValid = false → t.statusValid = true →
    ∃ (rest : List Event) (r : Response), s.script = .command 0x00000001 :: rest ∧ t.rsplog = s.rsplog ++ [r] ∧
      r.evt = some .accepted) ∧
  (∀ s t : State, step s = .next t → s.statusValid = true → (∀ rest, s.script ≠ .reset :: rest) →
    t.statusValid = true)

/-- R41, R47, R53, R39: a step transmits at most one frame, whole; and every frame the block ever transmits is one of
the three transmitted shapes with the preamble, a length byte that gives its size, and a valid trailer. -/
def Obligations.EveryTransmittedFrameIsWellFormed : Prop :=
  ∀ s t : State, step s = .next t →
    t.txlog = s.txlog ∨
    ∃ f : List Byte, t.txlog = s.txlog ++ [f] ∧ (f.length = 13 ∨ f.length = 15 ∨ f.length = 25) ∧
      f[0]? = some 0xFF ∧ f[1]? = some 0xFF ∧ f.length = checksumOffset f + 3 ∧ trailerValid f = true

/-- R67: every command word gets exactly one response, which says whether a frame was handed over; every other move
gets none; and no step writes the open parameters. The script and the record of responses are the model's own: log
entries 3 and 4. -/
def Obligations.EveryCommandIsAnsweredOnce : Prop :=
  ∀ s t : State, step s = .next t →
    t.par = s.par ∧
    ((∃ w rest, s.script = .command w :: rest) →
      ∃ r : Response, t.rsplog = s.rsplog ++ [r] ∧
        (r.sent = true → ∃ f, t.txlog = s.txlog ++ [f]) ∧ (r.sent = false → t.txlog = s.txlog) ∧
        (r.evt.isSome = true ↔ s.script.head? = some (.command 0x00000001)) ∧
        (r.valid.isSome = true ↔ s.script.head? = some (.command 0x00000006))) ∧
    ((∀ w rest, s.script ≠ .command w :: rest) → t.rsplog = s.rsplog ∧ t.txlog = s.txlog)

/-- R18, R19, R24, R87, R99: the invariant of the states between two moves is kept by every step, whatever the
environment does. -/
def Obligations.StepKeepsTheInvariant : Prop :=
  ∀ s t : State, s.Inv → step s = .next t → t.Inv

/-- R31 with R19, R99: the state after reset meets the invariant, for every binding of the open parameters and every
script. -/
def Obligations.ResetMeetsTheInvariant : Prop :=
  State.reset.Inv ∧ ∀ (p : Params) (script : List Event), State.Inv { State.resetWith p with script := script }

/-- R19, R87, R99: every reachable state meets the invariant, and its step is safe. -/
def Obligations.ReachableStatesAreSane : Prop :=
  ∀ s : State, Reachable s → s.Inv ∧ SafeStep s
end

