-- ==== Sys2Proof/Laws/Ops.lean ====
section
/-! SUPPORT. One lemma per shared operation that says what it can answer. -/

namespace Sys2Proof.Machine

theorem rxAvail_iff (s : State) : rxAvail s = true ↔ s.rxq ≠ [] := by simp [rxAvail]

theorem rxAvail_nil {s : State} (h : s.rxq = []) : rxAvail s = false := by simp [rxAvail, h]

theorem rxAvail_cons {s : State} {b : Byte} {q : List Byte} (h : s.rxq = b :: q) : rxAvail s = true := by
  simp [rxAvail, h]

theorem rxRead_nil {s : State} (h : s.rxq = []) : rxRead s = none := by simp [rxRead, h]

theorem rxRead_cons {s : State} {b : Byte} {q : List Byte} (h : s.rxq = b :: q) :
    rxRead s = some (b, { s with rxq := q }) := by simp [rxRead, h]

/-- Everything RxRead can do: it removes the head and changes nothing else. -/
theorem rxRead_cases {s t : State} {b : Byte} (h : rxRead s = some (b, t)) :
    ∃ q, s.rxq = b :: q ∧ t = { s with rxq := q } := by
  unfold rxRead at h
  split at h
  · cases h
  · rename_i b' q hq; cases h; exact ⟨q, hq, rfl⟩

theorem dsValue_some {s : State} {d : DeviceState} (h : s.ds = some d) : dsValue s = d := by
  simp [dsValue, h]

/-- A write inside the buffer is a plain write of that byte. -/
theorem rxbufWrite_of_lt {i : Nat} (h : i < 47) (v : Byte) (s : State) :
    rxbufWrite i v s = { s with rxbuf := s.rxbuf.set i v } := by
  have : s.rxbuf.setIfInBounds i v = s.rxbuf.set i v := by
    apply Vector.ext
    intro j hj
    simp [Vector.getElem_set, Vector.getElem_setIfInBounds]
  simp [rxbufWrite, this]

theorem nextEvent_nil {s : State} (h : s.script = []) : nextEvent s = none := by simp [nextEvent, h]

theorem nextEvent_cons {s : State} {e : Event} {rest : List Event} (h : s.script = e :: rest) :
    nextEvent s = some (e, { s with script := rest }) := by simp [nextEvent, h]

/-- Everything taking a move off the script can do. -/
theorem nextEvent_cases {s t : State} {e : Event} (h : nextEvent s = some (e, t)) :
    ∃ rest, s.script = e :: rest ∧ t = { s with script := rest } := by
  unfold nextEvent at h
  split at h
  · cases h
  · rename_i e' rest hr; cases h; exact ⟨rest, hr, rfl⟩

theorem powerOn_wf {raw : Config.RawParams} (h : raw.wf = true) :
    powerOn raw = .next (State.resetWith ⟨raw, h⟩) := by simp [powerOn, h]

theorem powerOn_not_wf {raw : Config.RawParams} (h : raw.wf = false) :
    powerOn raw = .refused .badParameters := by simp [powerOn, h]

end Sys2Proof.Machine
end

