-- ==== Sys2Proof/Laws/State.lean ====
section
/-! SUPPORT. One lemma per field per update of State, each true by rfl, so that no later proof unfolds a record
update. -/

namespace Sys2Proof.Machine

/-! ## txFrame -/

@[simp] theorem txFrame_asmState (f : List Byte) (s : State) : (txFrame f s).asmState = s.asmState := rfl
@[simp] theorem txFrame_asmCnt (f : List Byte) (s : State) : (txFrame f s).asmCnt = s.asmCnt := rfl
@[simp] theorem txFrame_rxbuf (f : List Byte) (s : State) : (txFrame f s).rxbuf = s.rxbuf := rfl
@[simp] theorem txFrame_statusValid (f : List Byte) (s : State) :
    (txFrame f s).statusValid = s.statusValid := rfl
@[simp] theorem txFrame_ds (f : List Byte) (s : State) : (txFrame f s).ds = s.ds := rfl
@[simp] theorem txFrame_mm (f : List Byte) (s : State) : (txFrame f s).mm = s.mm := rfl
@[simp] theorem txFrame_rxq (f : List Byte) (s : State) : (txFrame f s).rxq = s.rxq := rfl
@[simp] theorem txFrame_txlog (f : List Byte) (s : State) : (txFrame f s).txlog = s.txlog ++ [f] := rfl
@[simp] theorem txFrame_rsplog (f : List Byte) (s : State) : (txFrame f s).rsplog = s.rsplog := rfl
@[simp] theorem txFrame_script (f : List Byte) (s : State) : (txFrame f s).script = s.script := rfl
@[simp] theorem txFrame_par (f : List Byte) (s : State) : (txFrame f s).par = s.par := rfl

/-! ## respond -/

@[simp] theorem respond_asmState (r : Response) (s : State) : (respond r s).asmState = s.asmState := rfl
@[simp] theorem respond_asmCnt (r : Response) (s : State) : (respond r s).asmCnt = s.asmCnt := rfl
@[simp] theorem respond_rxbuf (r : Response) (s : State) : (respond r s).rxbuf = s.rxbuf := rfl
@[simp] theorem respond_statusValid (r : Response) (s : State) :
    (respond r s).statusValid = s.statusValid := rfl
@[simp] theorem respond_ds (r : Response) (s : State) : (respond r s).ds = s.ds := rfl
@[simp] theorem respond_mm (r : Response) (s : State) : (respond r s).mm = s.mm := rfl
@[simp] theorem respond_rxq (r : Response) (s : State) : (respond r s).rxq = s.rxq := rfl
@[simp] theorem respond_txlog (r : Response) (s : State) : (respond r s).txlog = s.txlog := rfl
@[simp] theorem respond_rsplog (r : Response) (s : State) : (respond r s).rsplog = s.rsplog ++ [r] := rfl
@[simp] theorem respond_script (r : Response) (s : State) : (respond r s).script = s.script := rfl
@[simp] theorem respond_par (r : Response) (s : State) : (respond r s).par = s.par := rfl

/-! ## raiseOutcome -/

@[simp] theorem raiseOutcome_asmState (e : Status) (s : State) :
    (raiseOutcome e s).asmState = s.asmState := rfl
@[simp] theorem raiseOutcome_asmCnt (e : Status) (s : State) : (raiseOutcome e s).asmCnt = s.asmCnt := rfl
@[simp] theorem raiseOutcome_rxbuf (e : Status) (s : State) : (raiseOutcome e s).rxbuf = s.rxbuf := rfl
@[simp] theorem raiseOutcome_statusValid (e : Status) (s : State) :
    (raiseOutcome e s).statusValid = s.statusValid := rfl
@[simp] theorem raiseOutcome_ds (e : Status) (s : State) : (raiseOutcome e s).ds = s.ds := rfl
@[simp] theorem raiseOutcome_mm (e : Status) (s : State) : (raiseOutcome e s).mm = s.mm := rfl
@[simp] theorem raiseOutcome_rxq (e : Status) (s : State) : (raiseOutcome e s).rxq = s.rxq := rfl
@[simp] theorem raiseOutcome_txlog (e : Status) (s : State) : (raiseOutcome e s).txlog = s.txlog := rfl
@[simp] theorem raiseOutcome_rsplog (e : Status) (s : State) :
    (raiseOutcome e s).rsplog = s.rsplog ++ [Response.plain e false] := rfl
@[simp] theorem raiseOutcome_script (e : Status) (s : State) : (raiseOutcome e s).script = s.script := rfl
@[simp] theorem raiseOutcome_par (e : Status) (s : State) : (raiseOutcome e s).par = s.par := rfl

/-! ## rxbufWrite -/

@[simp] theorem rxbufWrite_asmState (i : Nat) (v : Byte) (s : State) :
    (rxbufWrite i v s).asmState = s.asmState := rfl
@[simp] theorem rxbufWrite_asmCnt (i : Nat) (v : Byte) (s : State) :
    (rxbufWrite i v s).asmCnt = s.asmCnt := rfl
@[simp] theorem rxbufWrite_rxbuf (i : Nat) (v : Byte) (s : State) :
    (rxbufWrite i v s).rxbuf = s.rxbuf.setIfInBounds i v := rfl
@[simp] theorem rxbufWrite_statusValid (i : Nat) (v : Byte) (s : State) :
    (rxbufWrite i v s).statusValid = s.statusValid := rfl
@[simp] theorem rxbufWrite_ds (i : Nat) (v : Byte) (s : State) : (rxbufWrite i v s).ds = s.ds := rfl
@[simp] theorem rxbufWrite_mm (i : Nat) (v : Byte) (s : State) : (rxbufWrite i v s).mm = s.mm := rfl
@[simp] theorem rxbufWrite_rxq (i : Nat) (v : Byte) (s : State) : (rxbufWrite i v s).rxq = s.rxq := rfl
@[simp] theorem rxbufWrite_txlog (i : Nat) (v : Byte) (s : State) : (rxbufWrite i v s).txlog = s.txlog := rfl
@[simp] theorem rxbufWrite_rsplog (i : Nat) (v : Byte) (s : State) :
    (rxbufWrite i v s).rsplog = s.rsplog := rfl
@[simp] theorem rxbufWrite_script (i : Nat) (v : Byte) (s : State) :
    (rxbufWrite i v s).script = s.script := rfl
@[simp] theorem rxbufWrite_par (i : Nat) (v : Byte) (s : State) : (rxbufWrite i v s).par = s.par := rfl

/-! ## rxArrive -/

@[simp] theorem rxArrive_asmState (b : Byte) (s : State) : (rxArrive b s).asmState = s.asmState := rfl
@[simp] theorem rxArrive_asmCnt (b : Byte) (s : State) : (rxArrive b s).asmCnt = s.asmCnt := rfl
@[simp] theorem rxArrive_rxbuf (b : Byte) (s : State) : (rxArrive b s).rxbuf = s.rxbuf := rfl
@[simp] theorem rxArrive_statusValid (b : Byte) (s : State) :
    (rxArrive b s).statusValid = s.statusValid := rfl
@[simp] theorem rxArrive_ds (b : Byte) (s : State) : (rxArrive b s).ds = s.ds := rfl
@[simp] theorem rxArrive_mm (b : Byte) (s : State) : (rxArrive b s).mm = s.mm := rfl
@[simp] theorem rxArrive_rxq (b : Byte) (s : State) : (rxArrive b s).rxq = s.rxq ++ [b] := rfl
@[simp] theorem rxArrive_txlog (b : Byte) (s : State) : (rxArrive b s).txlog = s.txlog := rfl
@[simp] theorem rxArrive_rsplog (b : Byte) (s : State) : (rxArrive b s).rsplog = s.rsplog := rfl
@[simp] theorem rxArrive_script (b : Byte) (s : State) : (rxArrive b s).script = s.script := rfl
@[simp] theorem rxArrive_par (b : Byte) (s : State) : (rxArrive b s).par = s.par := rfl

/-! ## resetBlock -/

@[simp] theorem resetBlock_asmState (s : State) : (resetBlock s).asmState = .seek := rfl
@[simp] theorem resetBlock_asmCnt (s : State) : (resetBlock s).asmCnt = 0 := rfl
@[simp] theorem resetBlock_rxbuf (s : State) : (resetBlock s).rxbuf = rxbufReset := rfl
@[simp] theorem resetBlock_statusValid (s : State) : (resetBlock s).statusValid = false := rfl
@[simp] theorem resetBlock_ds (s : State) : (resetBlock s).ds = none := rfl
@[simp] theorem resetBlock_mm (s : State) : (resetBlock s).mm = ModeMemory.reset := rfl
@[simp] theorem resetBlock_rxq (s : State) : (resetBlock s).rxq = s.rxq := rfl
@[simp] theorem resetBlock_txlog (s : State) : (resetBlock s).txlog = s.txlog := rfl
@[simp] theorem resetBlock_rsplog (s : State) : (resetBlock s).rsplog = s.rsplog := rfl
@[simp] theorem resetBlock_script (s : State) : (resetBlock s).script = s.script := rfl
@[simp] theorem resetBlock_par (s : State) : (resetBlock s).par = s.par := rfl

/-! ## issueNext -/

@[simp] theorem issueNext_asmState (w : Word) (s : State) : (issueNext w s).asmState = s.asmState := rfl
@[simp] theorem issueNext_asmCnt (w : Word) (s : State) : (issueNext w s).asmCnt = s.asmCnt := rfl
@[simp] theorem issueNext_rxbuf (w : Word) (s : State) : (issueNext w s).rxbuf = s.rxbuf := rfl
@[simp] theorem issueNext_statusValid (w : Word) (s : State) :
    (issueNext w s).statusValid = s.statusValid := rfl
@[simp] theorem issueNext_ds (w : Word) (s : State) : (issueNext w s).ds = s.ds := rfl
@[simp] theorem issueNext_mm (w : Word) (s : State) : (issueNext w s).mm = s.mm := rfl
@[simp] theorem issueNext_rxq (w : Word) (s : State) : (issueNext w s).rxq = s.rxq := rfl
@[simp] theorem issueNext_txlog (w : Word) (s : State) : (issueNext w s).txlog = s.txlog := rfl
@[simp] theorem issueNext_rsplog (w : Word) (s : State) : (issueNext w s).rsplog = s.rsplog := rfl
@[simp] theorem issueNext_script (w : Word) (s : State) :
    (issueNext w s).script = .command w :: s.script := rfl
@[simp] theorem issueNext_par (w : Word) (s : State) : (issueNext w s).par = s.par := rfl

/-! ## sendFixed -/

@[simp] theorem sendFixed_asmState (f : List Byte) (s : State) : (sendFixed f s).asmState = s.asmState := rfl
@[simp] theorem sendFixed_asmCnt (f : List Byte) (s : State) : (sendFixed f s).asmCnt = s.asmCnt := rfl
@[simp] theorem sendFixed_rxbuf (f : List Byte) (s : State) : (sendFixed f s).rxbuf = s.rxbuf := rfl
@[simp] theorem sendFixed_statusValid (f : List Byte) (s : State) :
    (sendFixed f s).statusValid = s.statusValid := rfl
@[simp] theorem sendFixed_ds (f : List Byte) (s : State) : (sendFixed f s).ds = s.ds := rfl
@[simp] theorem sendFixed_mm (f : List Byte) (s : State) : (sendFixed f s).mm = s.mm := rfl
@[simp] theorem sendFixed_rxq (f : List Byte) (s : State) : (sendFixed f s).rxq = s.rxq := rfl
@[simp] theorem sendFixed_txlog (f : List Byte) (s : State) : (sendFixed f s).txlog = s.txlog ++ [f] := rfl
@[simp] theorem sendFixed_rsplog (f : List Byte) (s : State) :
    (sendFixed f s).rsplog = s.rsplog ++ [Response.plain .ok true] := rfl
@[simp] theorem sendFixed_script (f : List Byte) (s : State) : (sendFixed f s).script = s.script := rfl
@[simp] theorem sendFixed_par (f : List Byte) (s : State) : (sendFixed f s).par = s.par := rfl

/-! ## acceptUpdate -/

@[simp] theorem acceptUpdate_asmState (s : State) : (acceptUpdate s).asmState = s.asmState := rfl
@[simp] theorem acceptUpdate_asmCnt (s : State) : (acceptUpdate s).asmCnt = s.asmCnt := rfl
@[simp] theorem acceptUpdate_rxbuf (s : State) : (acceptUpdate s).rxbuf = s.rxbuf := rfl
@[simp] theorem acceptUpdate_statusValid (s : State) : (acceptUpdate s).statusValid = true := rfl
@[simp] theorem acceptUpdate_ds (s : State) : (acceptUpdate s).ds = some (statusDecode s.par s.rxbuf) := rfl
@[simp] theorem acceptUpdate_mm (s : State) :
    (acceptUpdate s).mm = mmUpdate (statusDecode s.par s.rxbuf) s.mm := rfl
@[simp] theorem acceptUpdate_rxq (s : State) : (acceptUpdate s).rxq = s.rxq := rfl
@[simp] theorem acceptUpdate_txlog (s : State) : (acceptUpdate s).txlog = s.txlog := rfl
@[simp] theorem acceptUpdate_rsplog (s : State) : (acceptUpdate s).rsplog = s.rsplog := rfl
@[simp] theorem acceptUpdate_script (s : State) : (acceptUpdate s).script = s.script := rfl
@[simp] theorem acceptUpdate_par (s : State) : (acceptUpdate s).par = s.par := rfl

/-! ## The state after reset -/

@[simp] theorem resetWith_asmState (p : Params) : (State.resetWith p).asmState = .seek := rfl
@[simp] theorem resetWith_asmCnt (p : Params) : (State.resetWith p).asmCnt = 0 := rfl
@[simp] theorem resetWith_rxbuf (p : Params) : (State.resetWith p).rxbuf = rxbufReset := rfl
@[simp] theorem resetWith_statusValid (p : Params) : (State.resetWith p).statusValid = false := rfl
@[simp] theorem resetWith_ds (p : Params) : (State.resetWith p).ds = none := rfl
@[simp] theorem resetWith_mm (p : Params) : (State.resetWith p).mm = ModeMemory.reset := rfl
@[simp] theorem resetWith_rxq (p : Params) : (State.resetWith p).rxq = [] := rfl
@[simp] theorem resetWith_txlog (p : Params) : (State.resetWith p).txlog = [] := rfl
@[simp] theorem resetWith_rsplog (p : Params) : (State.resetWith p).rsplog = [] := rfl
@[simp] theorem resetWith_script (p : Params) : (State.resetWith p).script = [] := rfl
@[simp] theorem resetWith_par (p : Params) : (State.resetWith p).par = p := rfl

/-- The reset input puts a block with empty ports into the state right after reset. -/
theorem resetBlock_reset : resetBlock State.reset = State.reset := rfl

end Sys2Proof.Machine
end

