-- ==== Sys2Proof/Laws/Assembler.lean ====
section
/-! SUPPORT. What one transition of the assembler, one evaluation of a candidate and the loop of PROCESS can do,
each said once. -/

namespace Sys2Proof.Machine

/-- Everything one transition can do: nothing (where no byte is available, or in READY), move from SEEK to RD1, or read one byte and take the row of the
state. -/
theorem asmStep_cases (s : State) :
    (asmStep s = s ∧ (s.rxq = [] ∨ s.asmState = .ready)) ∨
    (s.asmState = .seek ∧ s.rxq ≠ [] ∧ asmStep s = { s with asmState := .rd1 }) ∨
    ∃ b q, s.rxq = b :: q ∧
      ((s.asmState = .rd1 ∧ asmStep s = asmFirstByte b { s with rxq := q }) ∨
       (s.asmState = .rd2 ∧ asmStep s = asmSecondByte b { s with rxq := q }) ∨
       (s.asmState = .body ∧ asmStep s = asmBodyByte b { s with rxq := q })) := by
  cases hq : s.rxq with
  | nil => left; refine ⟨?_, .inl rfl⟩; unfold asmStep; split <;> simp [rxRead_nil hq, rxAvail_nil hq]
  | cons b q =>
    unfold asmStep
    split <;> rename_i hs
    · exact .inr (.inl ⟨hs, by simp, by simp [rxAvail_cons hq, hq]⟩)
    · exact .inr (.inr ⟨b, q, rfl, .inl ⟨hs, by simp [rxRead_cons hq]⟩⟩)
    · exact .inr (.inr ⟨b, q, rfl, .inr (.inl ⟨hs, by simp [rxRead_cons hq]⟩)⟩)
    · exact .inr (.inr ⟨b, q, rfl, .inr (.inr ⟨hs, by simp [rxRead_cons hq]⟩)⟩)
    · exact .inl ⟨rfl, .inr hs⟩

/-- What a transition never changes. -/
structure SameOutsideAssembler (s t : State) : Prop where
  statusValid : t.statusValid = s.statusValid
  ds : t.ds = s.ds
  mm : t.mm = s.mm
  txlog : t.txlog = s.txlog
  rsplog : t.rsplog = s.rsplog
  script : t.script = s.script
  par : t.par = s.par

theorem SameOutsideAssembler.rfl' (s : State) : SameOutsideAssembler s s := ⟨rfl, rfl, rfl, rfl, rfl, rfl, rfl⟩

theorem SameOutsideAssembler.trans {s t u : State} (h : SameOutsideAssembler s t) (g : SameOutsideAssembler t u) :
    SameOutsideAssembler s u :=
  ⟨g.1.trans h.1, g.2.trans h.2, g.3.trans h.3, g.4.trans h.4, g.5.trans h.5, g.6.trans h.6, g.7.trans h.7⟩

/-- The assembler writes ASM_STATE, ASM_CNT, RXBUF and RXQ only. -/
theorem asmStep_frame (s : State) : SameOutsideAssembler s (asmStep s) := by
  rcases asmStep_cases s with ⟨h, _⟩ | ⟨_, _, h⟩ | ⟨b, q, _, ⟨_, h⟩ | ⟨_, h⟩ | ⟨_, h⟩⟩ <;> rw [h]
  · exact .rfl' s
  · exact ⟨rfl, rfl, rfl, rfl, rfl, rfl, rfl⟩
  · unfold asmFirstByte; split <;> exact ⟨rfl, rfl, rfl, rfl, rfl, rfl, rfl⟩
  · unfold asmSecondByte; split <;> exact ⟨rfl, rfl, rfl, rfl, rfl, rfl, rfl⟩
  · exact ⟨rfl, rfl, rfl, rfl, rfl, rfl, rfl⟩

/-- The three rejections: the candidate is dropped and nothing else changes; or the candidate is accepted. -/
theorem frameReadyEval_cases (s : State) :
    (frameVerdict s.par s.rxbuf = .accepted ∧
      frameReadyEval s = ({ acceptUpdate s with asmCnt := 0, asmState := .seek }, .accepted)) ∨
    (frameVerdict s.par s.rxbuf ≠ .accepted ∧
      frameReadyEval s = ({ s with asmCnt := 0, asmState := .seek }, frameVerdict s.par s.rxbuf)) := by
  unfold frameReadyEval
  by_cases h : frameVerdict s.par s.rxbuf = .accepted
  · left; simp [h]
  · right; simp [h]

/-- No verdict is NONE. -/
theorem frameVerdict_ne_none (par : Params) (buf : Vector Byte 47) : frameVerdict par buf ≠ .none := by
  unfold frameVerdict validate
  repeat' split
  all_goals simp

theorem processLoop_ready {n : Nat} {s : State} (h : s.asmState = .ready) :
    processLoop (n + 1) s = frameReadyEval s := by simp [processLoop, h]

theorem processLoop_wait {n : Nat} {s : State} (h : s.asmState ≠ .ready) (hq : s.rxq = []) :
    processLoop (n + 1) s = (s, .none) := by simp [processLoop, h, rxAvail_nil hq]

theorem processLoop_step {n : Nat} {s : State} (h : s.asmState ≠ .ready) (hq : s.rxq ≠ []) :
    processLoop (n + 1) s = processLoop n (asmStep s) := by simp [processLoop, h, (rxAvail_iff s).mpr hq]

/-- A property that transitions and evaluations keep, the loop keeps. -/
theorem processLoop_keeps {P : State → Prop} (hstep : ∀ s, s.asmState ≠ .ready → P s → P (asmStep s))
    (heval : ∀ s, s.asmState = .ready → P s → P (frameReadyEval s).1) (n : Nat) :
    ∀ s, P s → P (processLoop n s).1 := by
  induction n with
  | zero => intro s hs; exact hs
  | succ n ih =>
    intro s hs
    by_cases hr : s.asmState = .ready
    · rw [processLoop_ready hr]; exact heval s hr hs
    · by_cases hq : s.rxq = []
      · rw [processLoop_wait hr hq]; exact hs
      · rw [processLoop_step hr hq]; exact ih _ (hstep s hr hs)

end Sys2Proof.Machine
end

