-- ==== Sys2Proof/Laws/Checksum.lean ====
section
/-! SUPPORT. The small lemmas of the checksum functions: what each answers, so that later proofs cite these and
do not unfold. -/

namespace Sys2Proof.Machine

@[simp] theorem checkRange_nil (off : Nat) : checkRange [] off = [] := by simp [checkRange]

/-- `checksum8` answers a byte exactly when the frame is long enough. -/
theorem checksum8_of_le {f : List Byte} {off : Nat} (h : off ≤ f.length) :
    checksum8 f off = some ((checkRange f off).foldl (· + ·) 0) := by
  simp [checksum8, Nat.not_lt.mpr h]

theorem checksum8_of_lt {f : List Byte} {off : Nat} (h : f.length < off) : checksum8 f off = none := by
  simp [checksum8, h]

@[simp] theorem crc16_nil (c : Crc) : crc16 c [] = c := rfl

@[simp] theorem crc16_cons (c : Crc) (b : Byte) (bs : List Byte) : crc16 c (b :: bs) = crc16 (crcByte c b) bs := rfl

theorem checksumOffset_ge (f : List Byte) : 2 ≤ checksumOffset f := by simp [checksumOffset]

@[simp] theorem finalize_length (f : List Byte) : (finalize f).length = f.length := by simp [finalize]

/-- What passing the receive check means. -/
theorem checksumOK_iff (buf : Vector Byte 47) :
    checksumOK buf = true ↔
      ∃ h : checksumOffset buf.toList < 47,
        checksum8 buf.toList (checksumOffset buf.toList) = some buf[checksumOffset buf.toList] := by
  unfold checksumOK
  simp only
  split
  · rename_i h; simp [h]
  · rename_i h; simp [h]

end Sys2Proof.Machine
end

