-- ==== Sys2Proof/Laws/Decode.lean ====
section
/-! SUPPORT. The small lemmas of the decoder and the encoder: the codes of the operand fields, and what an
accepted word is. -/

namespace Sys2Proof

@[simp] theorem ModeReq.ofCode_code (m : ModeReq) : ModeReq.ofCode m.code = m := by cases m <;> rfl

@[simp] theorem FanReq.ofCode_code (f : FanReq) : FanReq.ofCode f.code = f := by cases f <;> rfl

@[simp] theorem SwingReq.ofCode_code (w : SwingReq) : SwingReq.ofCode w.code = w := by cases w <;> rfl

@[simp] theorem ModeReq.code_ofCode (c : BitVec 3) : (ModeReq.ofCode c).code = c := by
  revert c; decide

@[simp] theorem FanReq.code_ofCode (c : BitVec 3) : (FanReq.ofCode c).code = c := by
  revert c; decide

@[simp] theorem SwingReq.code_ofCode (c : BitVec 2) : (SwingReq.ofCode c).code = c := by
  revert c; decide

/-- Every command is well-formed (R66 (b)). -/
@[simp] theorem Instr.wf_all (i : Instr) : i.wf = true := by cases i <;> rfl

/-- What a word accepted as an operation without operands is. -/
theorem decodeNoArg_ok {i j : Instr} {w : Word} (h : decodeNoArg i w = .ok j) :
    j = i ∧ w.extractLsb' 4 28 = 0 := by
  unfold decodeNoArg at h
  split at h
  · cases h; exact ⟨rfl, ‹_›⟩
  · cases h

/-- What a word accepted as REQ_CHANGE is. -/
theorem decodeReqChange_ok {j : Instr} {w : Word} (h : decodeReqChange w = .ok j) :
    j = .reqChange (w.getLsbD 4) (ModeReq.ofCode (w.extractLsb' 5 3)) (w.getLsbD 8)
        (FanReq.ofCode (w.extractLsb' 9 3)) (w.getLsbD 12) (SwingReq.ofCode (w.extractLsb' 13 2))
        (w.getLsbD 15) (w.extractLsb' 16 8)
      ∧ w.extractLsb' 24 8 = 0 := by
  unfold decodeReqChange at h
  split at h
  · cases h; exact ⟨rfl, ‹_›⟩
  · cases h

/-- Everything the decoder can answer with a command: the opcode picks the row. -/
theorem decode_cases {w : Word} {i : Instr} (h : decode w = .ok i) :
    ((opcodeOf w).toNat = 1 ∧ decodeNoArg .process w = .ok i) ∨
    ((opcodeOf w).toNat = 2 ∧ decodeNoArg .sendPoll w = .ok i) ∨
    ((opcodeOf w).toNat = 3 ∧ decodeNoArg .sendInit1 w = .ok i) ∨
    ((opcodeOf w).toNat = 4 ∧ decodeNoArg .sendInit2 w = .ok i) ∨
    ((opcodeOf w).toNat = 5 ∧ decodeReqChange w = .ok i) ∨
    ((opcodeOf w).toNat = 6 ∧ decodeNoArg .readState w = .ok i) := by
  unfold decode at h
  split at h
  · exact .inl ⟨‹_›, h⟩
  · exact .inr (.inl ⟨‹_›, h⟩)
  · exact .inr (.inr (.inl ⟨‹_›, h⟩))
  · exact .inr (.inr (.inr (.inl ⟨‹_›, h⟩)))
  · exact .inr (.inr (.inr (.inr (.inl ⟨‹_›, h⟩))))
  · exact .inr (.inr (.inr (.inr (.inr ⟨‹_›, h⟩))))
  · cases h

end Sys2Proof
end

