-- ==== Sys2Proof/Laws/PerInstr.lean ====
section
/-! SUPPORT. Statements about every command as syntax, one lemma per constructor. The family EncodingMatchesRow:
the encoded word of a command matches its row of the opcode table. -/

namespace Sys2Proof.Laws.EncodingMatchesRow

/-- The command's word, under the mask of its row, is the row's pattern. -/
def Statement (i : Instr) : Prop := (opcodeRow i).matchesWord (encode i) = true

theorem process : Statement .process := rfl

theorem sendPoll : Statement .sendPoll := rfl

theorem sendInit1 : Statement .sendInit1 := rfl

theorem sendInit2 : Statement .sendInit2 := rfl

theorem readState : Statement .readState := rfl

/-- Masking goes through an or. -/
theorem mask_or (a b m : Word) : (a ||| b) &&& m = (a &&& m) ||| (b &&& m) := by
  apply BitVec.eq_of_getLsbD_eq
  intro i _
  simp [Bool.and_or_distrib_right]

/-- No operand field of REQ_CHANGE reaches the opcode or the reserved bits. -/
theorem reqChange (mp : Bool) (mode : ModeReq) (fp : Bool) (fan : FanReq) (sp : Bool) (swing : SwingReq)
    (tp : Bool) (temp : Byte) : Statement (.reqChange mp mode fp fan sp swing tp temp) := by
  have field : ∀ (n k : Nat) (x : BitVec n), 4 ≤ k → n + k ≤ 24 →
      x.setWidth 32 <<< k &&& (0xFF00000F : Word) = 0#32 := by
    intro n k x hk hn
    apply BitVec.eq_of_getLsbD_eq
    intro i hi
    have hmask : (0xFF00000F : Word).getLsbD i = (decide (i < 4) || decide (24 ≤ i)) := by
      revert i; decide
    by_cases h : i < k
    · simp [h]
    · simp only [BitVec.getLsbD_and, BitVec.getLsbD_shiftLeft, BitVec.getLsbD_setWidth, hmask]
      by_cases h24 : 24 ≤ i
      · simp [BitVec.getLsbD_of_ge x (i - k) (by omega)]
      · have h4 : ¬ i < 4 := by omega
        simp [h24, h4]
  simp only [Statement, opcodeRow, encode, encodeReqChange, OpcodeRow.matchesWord, mask_or,
    field 1 4 _ (by omega) (by omega), field 3 5 _ (by omega) (by omega), field 1 8 _ (by omega) (by omega),
    field 3 9 _ (by omega) (by omega), field 1 12 _ (by omega) (by omega), field 2 13 _ (by omega) (by omega),
    field 1 15 _ (by omega) (by omega), field 8 16 _ (by omega) (by omega)]
  rfl

end Sys2Proof.Laws.EncodingMatchesRow
end

