-- ==== Sys2Proof/Laws/Step.lean ====
section
/-! SUPPORT. What a command and what a step can do, each said once. -/

namespace Sys2Proof.Machine

/-- What REQ_CHANGE can do: reject, answer without a frame, or transmit one frame. -/
theorem execReqChange_cases (mp : Bool) (mode : ModeReq) (fp : Bool) (fan : FanReq) (sp : Bool) (swing : SwingReq)
    (tp : Bool) (temp : Byte) (s : State) :
    (s.statusValid = false ∧
      execReqChange mp mode fp fan sp swing tp temp s = .next (raiseOutcome .rejected s)) ∨
    (s.statusValid = true ∧ (mp || fp || sp || tp) = false ∧
      execReqChange mp mode fp fan sp swing tp temp s = .next (respond (Response.plain .ok false) s)) ∨
    (s.statusValid = true ∧ (mp || fp || sp || tp) = true ∧
      execReqChange mp mode fp fan sp swing tp temp s =
        .next (sendFixed (controlFrame s.par
          (applyChanges s.par s.mm (dsValue s).power mp mode fp fan sp swing tp temp (seed (dsValue s)))) s)) := by
  unfold execReqChange
  by_cases hv : s.statusValid = false
  · left; simp [hv]
  · right
    have hv' : s.statusValid = true := by simpa using hv
    by_cases hc : (mp || fp || sp || tp) = false
    · left; simp [hv', hc]
    · right
      have hc' : (mp || fp || sp || tp) = true := Bool.not_eq_false _ ▸ hc
      exact ⟨hv', hc', by simp [hv', hc', sendFixed]⟩

/-- What a step can do: nothing is lined up, a byte arrives, the reset input is asserted, a legal command runs,
or an illegal word is answered. -/
theorem step_cases {s t : State} (h : step s = .next t) :
    (s.script = [] ∧ t = s) ∨
    (∃ b rest, s.script = .arrive b :: rest ∧ t = rxArrive b { s with script := rest }) ∨
    (∃ rest, s.script = .reset :: rest ∧ t = resetBlock { s with script := rest }) ∨
    (∃ w rest i, s.script = .command w :: rest ∧ decode w = .ok i ∧ exec i { s with script := rest } = .next t) ∨
    (∃ w rest e, s.script = .command w :: rest ∧ decode w = .error e ∧
      t = raiseOutcome .illegalCmd { s with script := rest }) := by
  unfold step at h
  split at h
  · rename_i hn
    cases h
    cases hs : s.script with
    | nil => exact .inl ⟨rfl, rfl⟩
    | cons e rest => rw [nextEvent_cons hs] at hn; cases hn
  · rename_i b u hn
    obtain ⟨rest, hs, rfl⟩ := nextEvent_cases hn
    cases h
    exact .inr (.inl ⟨b, rest, hs, rfl⟩)
  · rename_i u hn
    obtain ⟨rest, hs, rfl⟩ := nextEvent_cases hn
    cases h
    exact .inr (.inr (.inl ⟨rest, hs, rfl⟩))
  · rename_i w u hn
    obtain ⟨rest, hs, rfl⟩ := nextEvent_cases hn
    split at h
    · rename_i i hi
      exact .inr (.inr (.inr (.inl ⟨w, rest, i, hs, hi, h⟩)))
    · rename_i e he
      cases h
      exact .inr (.inr (.inr (.inr ⟨w, rest, e, hs, he, rfl⟩)))

end Sys2Proof.Machine
end

