-- ==== Sys2Proof/Tests/Slice0.lean ====
section
/-! SUPPORT. The model's own tests. Every expected value is a vector of spec/95_test_vectors.md or is worked out by
hand from the rule named; the binding is TB0 (spec/00_scope.md R9), which is not the device's layout. Then, for
every statement that has hypotheses, a witness: concrete data that meet them all, at a boundary where there is
one. -/

namespace Sys2Proof.Tests

open Sys2Proof Sys2Proof.Machine

/-! ## Helpers -/

/-- The next state, where there is one. -/
def nextOf (o : Host.Outcome State Fault Refusal) : Option State :=
  match o with
  | .next t => some t
  | .fault _ => none
  | .refused _ => none

/-- Frames SA, SB and SE of spec/95_test_vectors.md section 0. -/
def sa : Vector Byte 47 :=
  #v[0xFF, 0xFF, 0x2A, 0x40, 0, 0, 0, 0, 0, 0x02, 0x04, 0x23, 0x01, 0x30, 0, 0x01,
    0, 0, 0, 0, 0, 0, 0, 0, 0, 0, 0, 0, 0, 0, 0, 0, 0, 0, 0, 0, 0, 0, 0, 0, 0, 0, 0, 0, 0xC5, 0x83, 0xB7]

def sb : Vector Byte 47 :=
  #v[0xFF, 0xFF, 0x2A, 0x40, 0, 0, 0, 0, 0, 0x02, 0x02, 0xC1, 0x01, 0x30, 0, 0x01,
    0, 0, 0, 0, 0, 0, 0, 0, 0, 0, 0, 0, 0, 0, 0, 0, 0, 0, 0, 0, 0, 0, 0, 0, 0, 0, 0, 0, 0x61, 0x4D, 0xEF]

/-- SA with another type byte, with a wrong checksum, and at 9 degrees with its trailer recomputed (W2). -/
def saType : Vector Byte 47 := sa.set 9 0x01
def saSum : Vector Byte 47 := sa.set 20 0x01
def saCold : Vector Byte 47 := (((sa.set 13 0x12).set 44 0xA7).set 45 0x90).set 46 0x97

/-- The DeviceState that SA gives (V-HOST-4), and that SE gives (V-HOST-5). -/
def dsA : DeviceState :=
  { power := true, purify := false, quiet := false, fast := false, mode := 0x20, fan := 0x3, setpoint := 0x04,
    curtemp := 0x30, hswing := 0x00, vswing := 0x01 }

def dsE : DeviceState :=
  { power := true, purify := true, quiet := true, fast := true, mode := 0x80, fan := 0x2, setpoint := 0x08,
    curtemp := 0x2C, hswing := 0x03, vswing := 0x05 }

/-- A frame of three bytes (V-CK-3). -/
def short3 : List Byte := [0xFF, 0xFF, 0x0A]

/-- Reset under TB0, with bytes waiting in RXQ. -/
def fresh (q : List Byte) : State := { State.resetWith Params.tb0 with rxq := q }

/-- The state after SA (W4 step 1), and after SE, was accepted. -/
def afterSA : State :=
  { fresh [] with
    statusValid := true, ds := some dsA, mm := { climFan := 3, climSet := 0x04, fanFan := 1, fanSet := 0x08 } }

def afterSE : State :=
  { fresh [] with
    statusValid := true, ds := some dsE, mm := { climFan := 2, climSet := 0x08, fanFan := 1, fanSet := 0x08 } }

/-- A script line of spec/30_encoding.md R70 as a request with one or more categories. -/
def req (mode : Option ModeReq) (fan : Option FanReq) (swing : Option SwingReq) (temp : Option Byte) : Instr :=
  .reqChange mode.isSome (mode.getD .off) fan.isSome (fan.getD .auto) swing.isSome (swing.getD .off) temp.isSome
    (temp.getD 0)

/-! ## Decoding: words written out from the encoding tables of spec/30_encoding.md R60 to R65 -/

theorem test_decode_process : decode 0b00000000000000000000000000000001 = .ok .process := by decide

theorem test_decode_sendPoll : decode 0b00000000000000000000000000000010 = .ok .sendPoll := by decide

theorem test_decode_sendInit1 : decode 0b00000000000000000000000000000011 = .ok .sendInit1 := by decide

theorem test_decode_sendInit2 : decode 0b00000000000000000000000000000100 = .ok .sendInit2 := by decide

theorem test_decode_readState : decode 0b00000000000000000000000000000110 = .ok .readState := by decide

/-- Bits 31..24 zero, TEMP 48, TP 1, SWING 0, SP 0, FAN 0, FP 0, MODE 5, MP 1, opcode 5 (W3). -/
theorem test_decode_reqChange :
    decode 0b00000000_00110000_1_00_0_000_0_101_1_0101 = .ok (req (some .cool) none none (some 48)) := by decide

/-- Each presence bit and each value field by itself. -/
theorem test_decode_fields :
    decode 0b00000000_00000000_0_00_0_000_0_110_0_0101 = .ok (.reqChange false .fanOnly false .auto false .off false 0) ∧
    decode 0b00000000_00000000_0_00_0_011_1_000_0_0101 = .ok (.reqChange false .off true .high false .off false 0) ∧
    decode 0b00000000_00000000_0_10_1_000_0_000_0_0101 =
      .ok (.reqChange false .off false .auto true .horizontal false 0) ∧
    decode 0b00000000_10000001_0_00_0_000_0_000_0_0101 =
      .ok (.reqChange false .off false .auto false .off false 0x81) := by decide

/-- R66 (a), with the words of V-CMD-1 to V-CMD-7. -/
theorem test_decode_rejects :
    decode 0x00000000 = .error .reservedOpcode ∧ decode 0x00000007 = .error .reservedOpcode ∧
    decode 0x0000000F = .error .reservedOpcode ∧ decode 0x00000011 = .error .reservedBits ∧
    decode 0x80000002 = .error .reservedBits ∧ decode 0x01000005 = .error .reservedBits ∧
    decode 0x00010006 = .error .reservedBits := by decide

/-- The encoded words of the spec's scripts (section 2.5 of the vectors). -/
theorem test_encode_script_words :
    encode (req (some .off) none none none) = 0x00000015 ∧
    encode (req (some .cool) (some .high) none (some 48)) = 0x003087B5 ∧
    encode (req none (some .focus) none none) = 0x00000D05 ∧
    encode (req none none (some .both) none) = 0x00007005 ∧
    encode (req none none none (some 255)) = 0x00FF8005 ∧
    encode (req (some .m7) none none none) = 0x000000F5 := by decide

/-- The pseudo-instructions (R71) are the words of the scripts. -/
theorem test_pseudo_words :
    encode Instr.powerToggle = 0x00000015 ∧ encode (Instr.setTemp 44) = 0x002C8005 ∧
    encode (Instr.setFan .high) = 0x00000705 ∧ encode (Instr.setSwing .vertical) = 0x00003005 ∧
    Instr.initSequence.map encode = [0x00000003, 0x00000004] ∧ encode Instr.pollTick = 0x00000002 := by decide

theorem test_decodeTableWord :
    decodeTableWord 32 0x00007005 = some (req none none (some .both) none) ∧ decodeTableWord 32 0x11 = none ∧
    decodeTableWord 8 0x01 = some .process := by decide

/-- The command that withFetchWord places is the one the next step runs. -/
theorem test_withFetchWord :
    (nextOf (step (State.reset.withFetchWord 32 0x00000002))).map (·.txlog) = some [Config.pollFrame] := by rfl

/-! ## Well-formedness: an ill-formed parameter set for each check, refused -/

/-- TB0 as raw parameters. -/
def raw0 : Config.RawParams := .tb0 Config.standInInit1 Config.standInInit2

/-- A set refused by the check of its constraint, and so by powerOn. -/
def refusedRaw (check : Config.RawParams → Bool) (r : Config.RawParams) : Bool :=
  check r == false && r.wf == false

theorem test_wf_tb0 : raw0.wf = true := by decide +kernel

theorem test_wf_statusIndex_type_byte :
    refusedRaw statusIndicesInRange { raw0 with stOffFlags := 9 } = true := by decide +kernel

theorem test_wf_statusIndex_edges :
    refusedRaw statusIndicesInRange { raw0 with stOffSetpoint := 2 } = true ∧
    refusedRaw statusIndicesInRange { raw0 with stOffSetpoint := 44 } = true ∧
    Config.RawParams.wf { raw0 with stOffSetpoint := 3, stOffVSwing := 43 } = true := by decide +kernel

theorem test_wf_statusIndices_distinct :
    refusedRaw statusIndicesDistinct { raw0 with stOffCurTemp := raw0.stOffSetpoint } = true := by decide +kernel

theorem test_wf_controlIndex_edges :
    refusedRaw controlIndicesInRange { raw0 with ctOffFlags := 9 } = true ∧
    refusedRaw controlIndicesInRange { raw0 with ctOffFlags := 22 } = true ∧
    Config.RawParams.wf { raw0 with ctOffFlags := 21, ctOffVSwing := 8 } = true := by decide +kernel

theorem test_wf_controlIndices_distinct :
    refusedRaw controlIndicesDistinct { raw0 with ctOffHSwing := raw0.ctOffVSwing } = true := by decide +kernel

theorem test_wf_swing_codes :
    refusedRaw hSwingCodesDiffer { raw0 with hswAuto := raw0.hswCenter } = true ∧
    refusedRaw vSwingCodesDiffer { raw0 with vswAuto := raw0.vswCenter } = true := by decide +kernel

theorem test_wf_template :
    refusedRaw templatePreambleOk { raw0 with ctrlTemplate := raw0.ctrlTemplate.set 1 0xFE } = true ∧
    refusedRaw templateLengthOk { raw0 with ctrlTemplate := raw0.ctrlTemplate.set 2 0x15 } = true := by
  decide +kernel

theorem test_wf_initFrames :
    refusedRaw (fun r => initPreambleOk r.initFrame1) { raw0 with initFrame1 := raw0.initFrame1.set 0 0 } = true ∧
    refusedRaw (fun r => initLengthOk r.initFrame2) { raw0 with initFrame2 := raw0.initFrame2.set 2 0x09 } = true ∧
    refusedRaw (fun r => initTrailerOk r.initFrame1) { raw0 with initFrame1 := raw0.initFrame1.set 10 0x0A } = true ∧
    refusedRaw (fun r => initTrailerOk r.initFrame2) { raw0 with initFrame2 := raw0.initFrame2.set 12 0x81 } = true := by
  decide +kernel

theorem test_wf_curTempRawMax :
    refusedRaw curTempRawMaxOk { raw0 with curTempRawMax := 102 } = true ∧
    Config.RawParams.wf { raw0 with curTempRawMax := 101 } = true := by decide +kernel

theorem test_powerOn_refuses :
    powerOn { raw0 with ctrlTemplate := raw0.ctrlTemplate.set 2 0x15 } = .refused .badParameters := by rfl

/-! ## Checksums (sections 2.1 and 2.2 of the vectors) -/

theorem test_crc16_vectors :
    crc16 0 [0x01] = 0xC0C1 ∧ crc16 0 [0xFF] = 0x4040 ∧ crc16 0xFFFF [0x01] = 0x807E ∧ crc16 0 [0x00] = 0x0000 := by
  decide +kernel

/-- V-CK-1, V-CK-2 and V-CK-3: a sum, a sum that wraps, and FAIL. -/
theorem test_checksum8_vectors :
    checksum8 Config.pollFrame 12 = some 0x99 ∧ checksum8 [0xFF, 0xFF, 0x80, 0x90] 4 = some 0x10 ∧
    checksum8 [0xFF, 0xFF, 0x0A] 12 = none := by decide +kernel

/-- V-CK-7, V-CK-9 and V-CK-10: offsets 47, 46 and 2. -/
theorem test_checksumOK_offsets :
    checksumOK (sa.set 2 0x2D) = false ∧ checksumOK (sa.set 2 0x2C) = false ∧ checksumOK (sa.set 2 0x00) = true := by
  decide +kernel

/-! ## The commands, each one step -/

/-- V-FSM-2: SA from reset. -/
theorem test_process_accepts :
    (nextOf (exec .process (fresh sa.toList))).map (fun t => (t.rsplog, t.ds, t.mm, t.statusValid)) =
      some ([{ status := .ok, evt := some .accepted, sent := false, valid := none,
               proj := some { mode := .cool, fan := .low, swing := .off }, fields := none }],
            some dsA, { climFan := 3, climSet := 0x04, fanFan := 1, fanSet := 0x08 }, true) := by decide +kernel

/-- V-FSM-4: a stray FF before SA shifts the candidate; its type byte is then SA[8], and one byte of SA is left. -/
theorem test_process_stray_ff :
    (nextOf (exec .process (fresh (0xFF :: sa.toList)))).map
        (fun t => (t.rsplog.map (·.evt), t.rxq, t.statusValid, t.asmState)) =
      some ([some .badType], [0xB7], false, .seek) := by decide +kernel

/-- W1. -/
theorem test_sendPoll :
    (nextOf (exec .sendPoll (fresh []))).map (·.txlog) =
      some [[0xFF, 0xFF, 0x0A, 0x40, 0, 0, 0, 0, 0, 0x01, 0x4D, 0x01, 0x99, 0xB3, 0xB4]] := by decide +kernel

/-- V-HOST-2: the block does not enforce the order of the InitFrames. -/
theorem test_sendInit2_first :
    (nextOf (exec .sendInit2 (fresh []))).map (fun t => (t.txlog, t.rsplog.map (·.sent))) =
      some ([Config.standInInit2.toList], [true]) := by decide +kernel

theorem test_sendInit1 :
    (nextOf (exec .sendInit1 (fresh []))).map (·.txlog) = some [Config.standInInit1.toList] := by decide +kernel

/-- V-ENC-8: mode, fan and temperature in one frame, the later category over the climate slot. -/
theorem test_reqChange_order :
    (nextOf (exec (req (some .cool) (some .high) none (some 48)) afterSA)).map (·.txlog) =
      some [[0xFF, 0xFF, 0x14, 0x40, 0, 0, 0, 0, 0, 0x01, 0x08, 0x21, 0x01, 0x00, 0x01, 0, 0, 0, 0, 0, 0, 0,
             0x80, 0xB3, 0xFA]] := by decide +kernel

/-- V-ENC-12: the flag bits and the fine swing codes of SE are seeded. -/
theorem test_reqChange_seed :
    (nextOf (exec (req none (some .low) none none) afterSE)).map (·.txlog) =
      some [[0xFF, 0xFF, 0x14, 0x40, 0, 0, 0, 0, 0, 0x01, 0x08, 0x83, 0x1B, 0x03, 0x05, 0, 0, 0, 0, 0, 0, 0,
             0x03, 0xBF, 0xC7]] := by decide +kernel

/-- V-HOST-4. -/
theorem test_readState :
    (nextOf (exec .readState afterSA)).map (·.rsplog) =
      some [{ status := .ok, evt := none, sent := false, valid := some true,
              proj := some { mode := .cool, fan := .low, swing := .off }, fields := some dsA }] := by decide +kernel

/-- V-HOST-3: before the first status the field copies hold no value. -/
theorem test_readState_before_status :
    (nextOf (exec .readState (fresh []))).map (·.rsplog) =
      some [{ status := .ok, evt := none, sent := false, valid := some false, proj := none, fields := none }] := by
  decide +kernel

/-- V-CMD-8 and V-CMD-9: an illegal word is illegal before it is rejected; a legal empty request is rejected. -/
theorem test_illegal_before_rejected :
    (nextOf (step { fresh [] with script := [.command 0x01000005] })).map (·.rsplog.map (·.status)) =
      some [.illegalCmd] ∧
    (nextOf (step { fresh [] with script := [.command 0x00000005] })).map (·.rsplog.map (·.status)) =
      some [.rejected] := by decide +kernel

/-! ## Conversions -/

/-- R91 and R92: `0xF0` is 256 degrees, not 0; raw `0x13` is 9.5 degrees. -/
theorem test_temperatures : targetTemperature 0xF0 = 256 ∧ currentTemperature 0x13 = 19 / 2 := by
  constructor
  · rfl
  · show ((19 : Nat) : Rat) / 2 = 19 / 2
    norm_num

/-! ## Witnesses: data that meet the hypotheses of each statement, named after it -/

/-- Both clauses, one byte apart. -/
theorem witness_Checksum8IsSumModulo256 :
    short3.length < 4 ∧ 3 ≤ short3.length ∧ checksum8 short3 4 = none ∧ checksum8 short3 3 = some 0x0A := by
  decide

theorem witness_Checksum8OfEmptyRangeIsZero :
    2 ≤ [0xFF#8, 0xFF#8].length ∧ checksum8 [0xFF, 0xFF] 2 = some 0 ∧ checksumOffset [0xFF, 0xFF, 0x00] = 2 ∧
    checksumOffset [0xFF, 0xFF, 0xFF] = 257 := by decide

/-- The first and the last index of the range, in a frame that passes the check (W7). -/
theorem witness_ChecksumCatchesEverySingleBitFlip :
    checksumOK sa = true ∧ checksumOffset sa.toList = 44 ∧ 44 ≤ sa.toList.length ∧
    checksumOK (sa.set 3 (sa[3] ^^^ (1#8 <<< 0))) = false ∧ checksumOK (sa.set 43 (sa[43] ^^^ (1#8 <<< 7))) = false := by
  decide +kernel

theorem witness_ChecksumIgnoresByteExchange :
    2 ≤ 3 ∧ 3 < 4 ∧ 4 ≤ [0xFF#8, 0xFF#8, 0x80#8, 0x90#8].length ∧
    checksum8 [0xFF, 0xFF, 0x90, 0x80] 4 = checksum8 [0xFF, 0xFF, 0x80, 0x90] 4 := by decide

/-- An index past the checksum, and a zero length byte. -/
theorem witness_ReceiveCheckComparesTheSumOnly :
    sa[2].toNat + 2 < 45 ∧ checksumOK (sa.set 45 0) = true ∧ (sa.set 2 0)[2] = 0 := by decide +kernel

/-- A ControlFrame, whose trailer ends at its last byte. -/
theorem witness_FinalizeWritesExactlyTheTrailer :
    checksumOffset raw0.ctrlTemplate.toList + 2 = 24 ∧ 24 < raw0.ctrlTemplate.toList.length := by decide +kernel

theorem witness_DecodeOfEncodeIsTheCommand : (req (some .m7) (some .diffuse) (some .both) (some 255)).wf = true := by
  decide

theorem witness_EncodeOfDecodeIsTheWord :
    decode 0x00FFFFF5 = .ok (req (some .m7) (some .diffuse) (some .both) (some 255)) := by decide

theorem witness_DecoderAcceptsExactlyTheOpcodeTable :
    (⟨"REQ_CHANGE", 0x00000005, 0xFF00000F⟩ : OpcodeRow) ∈ opcodeTable ∧
    (0x00FFFFF5#32 &&& 0xFF00000F#32) = 0x00000005#32 := by decide

/-- Each clause of R123 at its edge: opcodes 0, 7 and 15, bit 24 of REQ_CHANGE, bit 4 of another opcode. -/
theorem witness_IllegalWordReportsIllegalCmd :
    (0x0#32 &&& 0xF#32 = 0x0#32) ∧ (0x7#32 ≤ 0x7#32 &&& 0xF#32) ∧ (0x7#32 ≤ 0xF#32 &&& 0xF#32) ∧
    (0x01000005#32 &&& 0xF#32 = 0x5#32 ∧ 0x01000005#32 &&& 0xFF000000#32 ≠ 0#32) ∧
    (0x11#32 &&& 0xF#32 = 0x1#32 ∧ 0x11#32 &&& 0xFFFFFFF0#32 ≠ 0#32) ∧
    ({ fresh [] with script := [.command 0x11] } : State).script = .command 0x11 :: [] := by decide

theorem witness_StepRunsTheDecodedCommand :
    ({ fresh [] with script := [.command 0x00000006] } : State).script = .command 0x00000006 :: [] ∧
    decode 0x00000006 = .ok .readState := by decide

theorem witness_ArrivalAppendsAndIdleHolds :
    ({ fresh [] with script := [.arrive 0xFF] } : State).script = .arrive 0xFF :: [] ∧ (fresh []).script = [] := by
  decide

theorem witness_ResetInputSetsTheBlockOnly :
    ({ afterSA with script := [.reset] } : State).script = .reset :: [] := by decide

/-- Both kinds of set exist: see also the tests of well-formedness. -/
theorem witness_ParametersAreAdmittedByTheirConstraints :
    raw0.wf = true ∧ Config.RawParams.wf { raw0 with curTempRawMax := 102 } = false := by decide +kernel

/-- One state for each row; BODY at its first and its last count. -/
theorem witness_AssemblerTransitionTable :
    (asmStep (fresh [])).asmState = .seek ∧
    (asmStep (fresh [0x00])).asmState = .rd1 ∧
    (asmStep { fresh [0xFF] with asmState := .rd1 }).asmState = .rd2 ∧
    (asmStep { fresh [0xFE] with asmState := .rd1 }).asmState = .seek ∧
    (asmStep { fresh [0xFF] with asmState := .rd2, asmCnt := 1 }).asmState = .body ∧
    (asmStep { fresh [0xFE] with asmState := .rd2, asmCnt := 1 }).asmState = .seek ∧
    (asmStep { fresh [0x2A] with asmState := .body, asmCnt := 2 }).asmState = .body ∧
    (asmStep { fresh [0xB7] with asmState := .body, asmCnt := 46 }).asmState = .ready := by decide +kernel

theorem witness_FrameReadyEvalJudgesTypeThenValidates :
    saType[9] ≠ 0x02 ∧ (sa[9] = 0x02 ∧ validate Params.tb0 sa = .accepted) ∧
    (saCold[9] = 0x02 ∧ validate Params.tb0 saCold = .badTemp) ∧
    (saSum[9] = 0x02 ∧ validate Params.tb0 saSum = .badChecksum) := by decide +kernel

/-- A candidate ready, nothing to read, something to read. -/
theorem witness_ProcessRunsThePseudocodeLoop :
    ({ fresh [] with asmState := .ready } : State).asmState = .ready ∧
    ((fresh []).asmState ≠ .ready ∧ (fresh []).rxq = []) ∧
    ((fresh [0x00]).asmState ≠ .ready ∧ (fresh [0x00]).rxq ≠ []) := by decide

/-- The bound is met with equality: two calls for each of three discarded bytes, and one more. -/
theorem witness_ProcessEndsWithinTwoCallsPerByte :
    2 * (fresh [0x12, 0x34, 0x56]).rxq.length + 1 ≤ 7 ∧ (processRun (fresh [0x12, 0x34, 0x56])).2 = .none ∧
    (processRun (fresh saType.toList)).2 ≠ .none := by decide +kernel

/-- Noise, SA, one byte more. -/
theorem witness_WholeFrameIsCollectedAndJudged :
    (fresh ([0x00, 0x12] ++ (sa.toList ++ [0x55]))).asmState = .seek ∧ (∀ b ∈ [0x00#8, 0x12#8], b ≠ 0xFF) ∧
    sa[0] = 0xFF ∧ sa[1] = 0xFF ∧
    (fresh ([0x00, 0x12] ++ (sa.toList ++ [0x55]))).rxq = [0x00, 0x12] ++ (sa.toList ++ [0x55]) := by decide +kernel

theorem witness_RescanningARejectedByteChangesNothing :
    ({ fresh [0x00] with asmState := .rd2, asmCnt := 1 } : State).asmState = .rd2 ∧
    ({ fresh [0x00] with asmState := .rd2, asmCnt := 1 } : State).rxq = 0x00 :: [] ∧ (0x00 : Byte) ≠ 0xFF := by decide

/-- No body byte, and 44 of the 45. -/
theorem witness_PartialFrameIsHeldInOrder :
    (fresh [0xFF, 0xFF]).rxq = 0xFF :: 0xFF :: [] ∧ (fresh [0xFF, 0xFF]).asmState = .seek ∧
    (sa.toList.drop 2).take 44 ≠ [] ∧ ((sa.toList.drop 2).take 44).length < 45 ∧
    (fresh (sa.toList.take 46)).rxq = 0xFF :: 0xFF :: (sa.toList.drop 2).take 44 := by decide +kernel

/-- V-FSM-5 and V-FSM-10: 30 bytes of SA, and SA with SB behind. -/
theorem witness_ChunkedArrivalDoesNotMatter :
    (processRun (fresh (sa.toList.take 30))).2 = .none ∧
    (processRun (fresh (sa.toList ++ sb.toList))).2 ≠ .none := by decide +kernel

/-- A state with one byte held, and the same with other bytes behind it. -/
theorem witness_StaleReceiveBytesNeverShow :
    let s : State := { fresh [0xFF] with asmState := .rd2, asmCnt := 1, rxbuf := rxbufReset.set 0 0xFF }
    let t : State := { s with rxbuf := rxbufReset.set 0 0xFF |>.set 1 0x77 }
    CountMatches s ∧ AgreeButStale s t ∧ s ≠ t := by
  refine ⟨rfl, ⟨fun i h hi => ?_, rfl⟩, by decide +kernel⟩
  have h0 : i = 0 := by
    have : i < 1 := hi
    omega
  subst h0; rfl

theorem witness_ValidateChecksChecksumThenTemperatures :
    checksumOK saSum = false ∧ (checksumOK saCold = true ∧ plausible Params.tb0 (statusDecode Params.tb0 saCold) = false) ∧
    (checksumOK sa = true ∧ plausible Params.tb0 (statusDecode Params.tb0 sa) = true) := by decide +kernel

/-- TB0 with the other value of CUR_TEMP_RAW_MAX. -/
def params101 : Params := { raw := { raw0 with curTempRawMax := 101 } }

/-- Both bindings, and raw 100 and 101 under each (R94). -/
theorem witness_PlausibleMeansTemperaturesInRange :
    Params.tb0.raw.curTempRawMax = 100 ∧ params101.raw.curTempRawMax = 101 ∧
    plausible Params.tb0 { dsA with curtemp := 100, setpoint := 14 } = true ∧
    plausible Params.tb0 { dsA with curtemp := 101 } = false ∧
    plausible params101 { dsA with curtemp := 101 } = true ∧
    plausible Params.tb0 { dsA with curtemp := 19 } = false ∧
    plausible Params.tb0 { dsA with setpoint := 15 } = false := by decide +kernel

theorem witness_AcceptedFrameReplacesDeviceState :
    (fresh sa.toList).asmState = .seek ∧ sa[0] = 0xFF ∧ sa[1] = 0xFF ∧ (fresh sa.toList).rxq = sa.toList ++ [] ∧
    sa[9] = 0x02 ∧ checksumOK sa = true ∧ plausible (fresh []).par (statusDecode (fresh []).par sa) = true := by
  decide +kernel

/-- The three kinds of rejected frame. -/
theorem witness_RejectedFrameLeavesDeviceState :
    (saType[0] = 0xFF ∧ saType[1] = 0xFF ∧ saType[9] ≠ 0x02) ∧
    (saSum[0] = 0xFF ∧ saSum[1] = 0xFF ∧ saSum[9] = 0x02 ∧ checksumOK saSum = false) ∧
    (saCold[0] = 0xFF ∧ saCold[1] = 0xFF ∧ saCold[9] = 0x02 ∧ checksumOK saCold = true ∧
      plausible (fresh []).par (statusDecode (fresh []).par saCold) = false) ∧
    (fresh saCold.toList).asmState = .seek ∧ (fresh saCold.toList).rxq = saCold.toList ++ [] ∧
    (frameReadyEval { fresh [] with rxbuf := saType }).2 ≠ .accepted := by decide +kernel

theorem witness_ModeMemoryRefreshesOneSlot :
    ({ dsA with mode := 0xC0 } : DeviceState).mode = 0xC0 ∧ dsA.mode ≠ 0xC0 := by decide

/-- Power off and on; a named code and an unnamed one. -/
theorem witness_ProjectedModeTable :
    ({ dsA with power := false } : DeviceState).power = false ∧ dsA.power = true ∧ dsA.mode = 0x20 ∧
    ({ dsA with mode := 0x10 } : DeviceState).mode ∉ [0x00#8, 0x20#8, 0x40#8, 0x80#8, 0xC0#8] := by decide

/-- Quiet and fast together, fast alone, neither with a named and an unnamed code (V-DEC-3 to V-DEC-6). -/
theorem witness_ProjectedFanTable :
    (dsE.power = true ∧ dsE.quiet = true ∧ dsE.fast = true ∧ projFan dsE = .low) ∧
    projFan { dsE with quiet := false } = .high ∧ projFan dsA = .low ∧
    (({ dsA with fan := 0xF } : DeviceState).fan ∉ [0x5#4, 0x3#4, 0x2#4, 0x1#4]) := by decide

/-- V-DEC-12 to V-DEC-15. -/
theorem witness_ProjectedSwingTable :
    projSwing Params.tb0 { dsA with hswing := 0x07, vswing := 0x0C } = .both ∧
    projSwing Params.tb0 { dsA with hswing := 0x07 } = .horizontal ∧
    projSwing Params.tb0 { dsA with vswing := 0x0C } = .vertical ∧
    projSwing Params.tb0 { dsA with hswing := 0x0C, vswing := 0x07 } = .off := by decide +kernel

theorem witness_RequestBeforeFirstStatusIsRejected : (fresh []).statusValid = false := by decide

/-- A request with a category of no effect, and one with none: FAN = 6, and no presence bit (V-ENC-5, V-ENC-6). -/
theorem witness_RequestTransmitsOneFrameOrNone :
    afterSA.statusValid = true ∧
    ((nextOf (exec (req none (some .focus) none none) afterSA)).map (·.txlog.length)) = some 1 ∧
    ((nextOf (exec (req none none none none) afterSA)).map (·.txlog.length)) = some 0 := by decide +kernel

theorem witness_RequestFrameCarriesSeedMemoryAndChanges :
    afterSA.statusValid = true ∧ afterSA.ds = some dsA := by decide

/-- 31 half-degrees is the first that does not wrap. -/
theorem witness_TempToRawRoundsAndWraps : 31 ≤ (31 : Byte).toNat ∧ tempToRaw 31 = 0x00 ∧ tempToRaw 255 = 0x70 := by
  decide

/-- Another fan request, then a temperature request (V-ENC-9). -/
theorem witness_RequestsDoNotAccumulate :
    LatchMatches afterSA ∧ (nextOf (exec (req none (some .high) none none) afterSA)).isSome = true ∧
    (nextOf (exec (req none none none (some 44)) afterSA)).isSome = true := by
  exact ⟨rfl, by decide +kernel, by decide +kernel⟩

/-- W4. -/
theorem witness_ModeMemoryRoundTrip :
    (fresh (sa.toList ++ (sb.toList ++ []))).asmState = .seek ∧
    (fresh (sa.toList ++ (sb.toList ++ []))).rxq = sa.toList ++ (sb.toList ++ []) ∧
    sa[0] = 0xFF ∧ sa[1] = 0xFF ∧ frameVerdict (fresh []).par sa = .accepted ∧
    sb[0] = 0xFF ∧ sb[1] = 0xFF ∧ frameVerdict (fresh []).par sb = .accepted ∧
    sa[(fresh []).par.raw.stOffModeFan] &&& 0xF0 ≠ 0xC0 ∧ sb[(fresh []).par.raw.stOffModeFan] &&& 0xF0 = 0xC0 := by
  decide +kernel

theorem witness_ReadStateAnswersDeviceState :
    (fresh []).statusValid = false ∧ afterSA.statusValid = true ∧ afterSA.ds = some dsA := by decide

/-- A step that accepts a frame: DS, MM and the latch change, the latch from 0. -/
theorem witness_OnlyAcceptanceOrResetChangesDeviceState :
    (nextOf (step { fresh sa.toList with script := [.command 0x00000001] })).map (fun t => (t.ds, t.statusValid)) =
      some (some dsA, true) ∧
    (fresh sa.toList).statusValid = false := by decide +kernel

/-- A latch that is 1 before a step other than the reset input. -/
theorem witness_FirstStatusLatchIsPermanent :
    afterSA.statusValid = true ∧ (∀ rest, ({ afterSA with script := [.arrive 0] } : State).script ≠ .reset :: rest) ∧
    (nextOf (step { afterSA with script := [.arrive 0] })).map (·.statusValid) = some true := by
  refine ⟨rfl, fun rest h => ?_, by decide +kernel⟩
  cases h

/-- A step that transmits. -/
theorem witness_EveryTransmittedFrameIsWellFormed :
    (nextOf (step { fresh [] with script := [.command 0x00000003] })).map (·.txlog) =
      some [Config.standInInit1.toList] := by decide +kernel

/-- A command, and a move that is none. -/
theorem witness_EveryCommandIsAnsweredOnce :
    (nextOf (step { fresh [] with script := [.command 0x00000001] })).map (·.rsplog.length) = some 1 ∧
    (nextOf (step { fresh [] with script := [.arrive 0xFF] })).map (·.rsplog.length) = some 0 := by decide +kernel

/-- A state with DS held and a candidate of 30 bytes meets the invariant and has a next state. -/
theorem witness_StepKeepsTheInvariant :
    let s : State := { afterSA with asmState := .body, asmCnt := 30, rxbuf := sa, script := [.command 0x00000001] }
    s.Inv ∧ (nextOf (step s)).isSome = true := by
  refine ⟨⟨(by decide : 2 ≤ 30 ∧ 30 ≤ 46), ⟨fun _ => rfl, fun _ => rfl⟩, rfl, .inr (.inr rfl), fun d h => ?_,
    (by decide : (0x04#8).toNat ≤ 14 ∧ (0x08#8).toNat ≤ 14)⟩, by decide +kernel⟩
  cases h
  exact ⟨by decide, by decide, by decide, by decide⟩

/-- A reachable state with a script, and the state one step on. -/
theorem witness_ReachableStatesAreSane :
    Reachable { State.resetWith Params.tb0 with script := [.arrive 0xFF] } ∧ Reachable (fresh [0xFF]) :=
  ⟨.start _ _, .next (.start Params.tb0 [.arrive 0xFF]) rfl⟩

end Sys2Proof.Tests
end

section
/-! What the encoder writes and the decoder reads back: every operand field of an encoded word, and so the round trip
(spec/30_encoding.md R60 to R70). -/

namespace Sys2Proof

/-! ## Reading a field of a word that is an or of shifted fields -/

/-- A field that lies in the word is read back whole. -/
theorem extractLsb'_shiftedField {n k : Nat} (x : BitVec n) (h : k + n ≤ 32) :
    (x.setWidth 32 <<< k).extractLsb' k n = x := by
  apply BitVec.eq_of_getLsbD_eq
  intro i hi
  have h32 : k + i < 32 := by omega
  simp [hi, h32]

/-- A read beside a field sees nothing of it. -/
theorem extractLsb'_shiftedField_of_disjoint {n k : Nat} (x : BitVec n) {j m : Nat} (h : k + n ≤ j ∨ j + m ≤ k) :
    (x.setWidth 32 <<< k).extractLsb' j m = 0#m := by
  apply BitVec.eq_of_getLsbD_eq
  intro i hi
  rw [BitVec.getLsbD_extractLsb', BitVec.getLsbD_shiftLeft, BitVec.getLsbD_setWidth]
  rcases h with h | h
  · simp [BitVec.getLsbD_of_ge x (j + i - k) (by omega)]
  · have hlt : j + i < k := by omega
    simp [hlt]

/-! ## The round trip (R70) -/

section ReqChange

variable (mp : Bool) (mode : ModeReq) (fp : Bool) (fan : FanReq) (sp : Bool) (swing : SwingReq) (tp : Bool)
  (temp : Byte)

theorem opcodeOf_encodeReqChange : opcodeOf (encodeReqChange mp mode fp fan sp swing tp temp) = 5#4 := by
  simp (disch := omega) [opcodeOf, encodeReqChange, BitVec.extractLsb'_or, extractLsb'_shiftedField_of_disjoint]

theorem reservedBits_encodeReqChange : (encodeReqChange mp mode fp fan sp swing tp temp).extractLsb' 24 8 = 0 := by
  simp (disch := omega) [encodeReqChange, BitVec.extractLsb'_or, extractLsb'_shiftedField_of_disjoint]

/-- The operand fields of R61, read from an encoded REQ_CHANGE, are its operands: at each field's place the or holds
that field and zeros. -/
theorem decodeReqChange_encodeReqChange :
    decodeReqChange (encodeReqChange mp mode fp fan sp swing tp temp) =
      .ok (.reqChange mp mode fp fan sp swing tp temp) := by
  rw [decodeReqChange, if_pos (reservedBits_encodeReqChange ..)]
  simp (disch := omega) [encodeReqChange, BitVec.extractLsb'_or, extractLsb'_shiftedField,
    extractLsb'_shiftedField_of_disjoint, BitVec.getLsbD_of_ge]

end ReqChange

/-- Decoding undoes encoding: every operand of every command is read back (R70). -/
theorem decode_encode (i : Instr) : decode (encode i) = .ok i := by
  cases i with
  | process | sendPoll | sendInit1 | sendInit2 | readState => rfl
  | reqChange mp mode fp fan sp swing tp temp =>
    simp [encode, decode, opcodeOf_encodeReqChange, decodeReqChange_encodeReqChange]

end Sys2Proof

namespace Sys2Proof.Machine

/-- The 32-bit table number of a word is the word. -/
@[simp] theorem tableWord_toNat (w : Word) : tableWord 32 w.toNat = w := by
  rw [tableWord, tableBits, Nat.mod_eq_of_lt w.isLt, BitVec.ofNat_toNat, BitVec.setWidth_eq]

/-- A legal command word at the head of the script runs its command on the state without it. -/
theorem step_command_ok {s : State} {w : Word} {rest : List Event} {i : Instr}
    (hs : s.script = .command w :: rest) (hw : decode w = .ok i) : step s = exec i { s with script := rest } := by
  simp [step, nextEvent_cons hs, hw]

/-- The command of an encoded word lined up as the next move is the one the next step runs. -/
theorem step_withFetchWord_encode (s : State) (i : Instr) :
    step (s.withFetchWord 32 (encode i).toNat) = exec i s := by
  rw [State.withFetchWord, tableWord_toNat, step_command_ok (issueNext_script _ s) (decode_encode i)]
  rfl

end Sys2Proof.Machine

open Sys2Proof.Machine

/-- Settles O14: a step's dispatch, and the round trip of the encoding for the word that withFetchWord places. -/
theorem stepRunsTheDecodedCommand : Obligations.StepRunsTheDecodedCommand :=
  ⟨fun _ _ _ _ => step_command_ok, step_withFetchWord_encode⟩

end

section
/-! The constraints on the open parameters, each check as the proposition of its rule (spec/00_scope.md R8,
spec/30_encoding.md R51, R52). -/

namespace Sys2Proof.Machine

open Sys2Proof.Config

theorem statusIndexOk_iff (i : Fin 47) :
    statusIndexOk i = true ↔ (3 ≤ i.val ∧ i.val ≤ 8) ∨ (10 ≤ i.val ∧ i.val ≤ 43) := by
  simp [statusIndexOk]

theorem controlIndexOk_iff (i : Fin 25) :
    controlIndexOk i = true ↔ (3 ≤ i.val ∧ i.val ≤ 8) ∨ (10 ≤ i.val ∧ i.val ≤ 21) := by
  simp [controlIndexOk]

theorem statusIndicesInRange_iff (r : RawParams) :
    statusIndicesInRange r = true ↔
      ∀ i ∈ statusIndices r, (3 ≤ i.val ∧ i.val ≤ 8) ∨ (10 ≤ i.val ∧ i.val ≤ 43) := by
  simp only [statusIndicesInRange, List.all_eq_true, statusIndexOk_iff]

theorem controlIndicesInRange_iff (r : RawParams) :
    controlIndicesInRange r = true ↔
      ∀ i ∈ controlIndices r, (3 ≤ i.val ∧ i.val ≤ 8) ∨ (10 ≤ i.val ∧ i.val ≤ 21) := by
  simp only [controlIndicesInRange, List.all_eq_true, controlIndexOk_iff]

theorem statusIndicesDistinct_iff (r : RawParams) :
    statusIndicesDistinct r = true ↔ (statusIndices r).Nodup := decide_eq_true_iff

theorem controlIndicesDistinct_iff (r : RawParams) :
    controlIndicesDistinct r = true ↔ (controlIndices r).Nodup := decide_eq_true_iff

theorem hSwingCodesDiffer_iff (r : RawParams) : hSwingCodesDiffer r = true ↔ r.hswCenter ≠ r.hswAuto := bne_iff_ne

theorem vSwingCodesDiffer_iff (r : RawParams) : vSwingCodesDiffer r = true ↔ r.vswCenter ≠ r.vswAuto := bne_iff_ne

theorem templatePreambleOk_iff (r : RawParams) :
    templatePreambleOk r = true ↔ r.ctrlTemplate[0] = 0xFF ∧ r.ctrlTemplate[1] = 0xFF := by
  simp [templatePreambleOk, preambleByte]

theorem templateLengthOk_iff (r : RawParams) : templateLengthOk r = true ↔ r.ctrlTemplate[2] = 0x14 := beq_iff_eq

/-- An InitFrame is admitted exactly when it meets R52, its range `F[2..10)` and CRC bytes written out. -/
theorem initFrameOk_iff (f : Vector Byte 13) :
    initFrameOk f = true ↔
      f[0] = 0xFF ∧ f[1] = 0xFF ∧ f[2] = 0x08 ∧ checksum8 f.toList 10 = some f[10] ∧
      f[11] = (crc16 0 ((f.toList.take 10).drop 2)).extractLsb' 8 8 ∧
      f[12] = (crc16 0 ((f.toList.take 10).drop 2)).extractLsb' 0 8 := by
  simp only [initFrameOk, initPreambleOk, initLengthOk, initTrailerOk, preambleByte, crcSeed, crcHigh, crcLow,
    checkRange, Bool.and_eq_true, beq_iff_eq, and_assoc]

theorem curTempRawMaxOk_iff (r : RawParams) :
    curTempRawMaxOk r = true ↔ r.curTempRawMax = 100 ∨ r.curTempRawMax = 101 := by
  simp [curTempRawMaxOk]

/-- A parameter set is well-formed exactly when it meets every constraint of R8, R51 and R52. -/
theorem rawParams_wf_iff (r : RawParams) :
    r.wf = true ↔
      (∀ i ∈ statusIndices r, (3 ≤ i.val ∧ i.val ≤ 8) ∨ (10 ≤ i.val ∧ i.val ≤ 43)) ∧ (statusIndices r).Nodup ∧
      (∀ i ∈ controlIndices r, (3 ≤ i.val ∧ i.val ≤ 8) ∨ (10 ≤ i.val ∧ i.val ≤ 21)) ∧ (controlIndices r).Nodup ∧
      r.hswCenter ≠ r.hswAuto ∧ r.vswCenter ≠ r.vswAuto ∧
      r.ctrlTemplate[0] = 0xFF ∧ r.ctrlTemplate[1] = 0xFF ∧ r.ctrlTemplate[2] = 0x14 ∧
      (∀ f ∈ [r.initFrame1, r.initFrame2],
        f[0] = 0xFF ∧ f[1] = 0xFF ∧ f[2] = 0x08 ∧ checksum8 f.toList 10 = some f[10] ∧
        f[11] = (crc16 0 ((f.toList.take 10).drop 2)).extractLsb' 8 8 ∧
        f[12] = (crc16 0 ((f.toList.take 10).drop 2)).extractLsb' 0 8) ∧
      (r.curTempRawMax = 100 ∨ r.curTempRawMax = 101) := by
  simp only [RawParams.wf, Bool.and_eq_true, statusIndicesInRange_iff, statusIndicesDistinct_iff,
    controlIndicesInRange_iff, controlIndicesDistinct_iff, hSwingCodesDiffer_iff, vSwingCodesDiffer_iff,
    templatePreambleOk_iff, templateLengthOk_iff, ← initFrameOk_iff, curTempRawMaxOk_iff, List.forall_mem_cons,
    List.not_mem_nil, false_implies, implies_true, true_and, and_assoc]

end Sys2Proof.Machine

open Sys2Proof.Machine

/-- Settles O19: well-formedness is the conjunction of the constraints, and powerOn decides by it. -/
theorem parametersAreAdmittedByTheirConstraints : Obligations.ParametersAreAdmittedByTheirConstraints := by
  intro raw
  refine ⟨fun hgood => ?_, fun hbad => ?_⟩
  · have hwf := (rawParams_wf_iff raw).mpr hgood
    exact ⟨hwf, powerOn_wf hwf⟩
  · exact powerOn_not_wf (Bool.eq_false_iff.mpr fun hwf => hbad ((rawParams_wf_iff raw).mp hwf))

end

section
/-! What the moves and the commands other than PROCESS do: the equations of a step for each kind of move, and the one
thing every other command does, which is to append to TXLOG and to the record of responses (spec/10_state.md R29,
spec/60_exceptions.md R123, R132, spec/70_reset_and_hazards.md R133). -/

namespace Sys2Proof.Machine

/-! ## One equation of a step per move -/

theorem step_nil {s : State} (h : s.script = []) : step s = .next s := by
  simp [step, nextEvent_nil h, idle]

theorem step_arrive {s : State} {b : Byte} {rest : List Event} (h : s.script = .arrive b :: rest) :
    step s = .next (rxArrive b { s with script := rest }) := by
  simp [step, nextEvent_cons h]

theorem step_reset {s : State} {rest : List Event} (h : s.script = .reset :: rest) :
    step s = .next (resetBlock { s with script := rest }) := by
  simp [step, nextEvent_cons h]

theorem step_command_error {s : State} {w : Word} {rest : List Event} {e : DecodeReject}
    (h : s.script = .command w :: rest) (hw : decode w = .error e) :
    step s = .next (raiseOutcome .illegalCmd { s with script := rest }) := by
  simp [step, nextEvent_cons h, hw]

/-! ## The commands other than PROCESS -/

/-- The frames `fs` handed to the sink and the answer `r` given: all that a command other than PROCESS does. -/
def answered (fs : List (List Byte)) (r : Response) (s : State) : State :=
  { s with txlog := s.txlog ++ fs, rsplog := s.rsplog ++ [r] }

theorem respond_eq_answered (r : Response) (s : State) : respond r s = answered [] r s := by
  simp [respond, answered]

theorem sendFixed_eq_answered (f : List Byte) (s : State) :
    sendFixed f s = answered [f] (Response.plain .ok true) s := rfl

/-- REQ_CHANGE answers, with the same frames and the same response whatever RXBUF holds. -/
theorem execReqChange_answers (mp : Bool) (mode : ModeReq) (fp : Bool) (fan : FanReq) (sp : Bool) (swing : SwingReq)
    (tp : Bool) (temp : Byte) (s : State) :
    ∃ fs r, ∀ buf, execReqChange mp mode fp fan sp swing tp temp { s with rxbuf := buf } =
      .next (answered fs r { s with rxbuf := buf }) := by
  rcases execReqChange_cases mp mode fp fan sp swing tp temp s with ⟨hv, -⟩ | ⟨hv, hc, -⟩ | ⟨hv, hc, -⟩
  · exact ⟨[], Response.plain .rejected false, fun buf => by
      simp [execReqChange, hv, raiseOutcome, respond_eq_answered]⟩
  · exact ⟨[], Response.plain .ok false, fun buf => by simp [execReqChange, hv, hc, respond_eq_answered]⟩
  · refine ⟨[controlFrame s.par (applyChanges s.par s.mm (dsValue s).power mp mode fp fan sp swing tp temp
      (seed (dsValue s)))], Response.plain .ok true, fun buf => ?_⟩
    rw [execReqChange, if_neg (by simp [hv]), if_neg (by simp [hc])]
    rfl

/-- A command other than PROCESS hands over some frames, answers once, changes nothing else, and neither reads nor
writes RXBUF. -/
theorem exec_answers {i : Instr} (hi : i ≠ .process) (s : State) :
    ∃ fs r, ∀ buf, exec i { s with rxbuf := buf } = .next (answered fs r { s with rxbuf := buf }) := by
  cases i with
  | process => exact absurd rfl hi
  | sendPoll => exact ⟨[Config.pollFrame], _, fun buf => congrArg _ (sendFixed_eq_answered _ _)⟩
  | sendInit1 => exact ⟨[s.par.raw.initFrame1.toList], _, fun buf => congrArg _ (sendFixed_eq_answered _ _)⟩
  | sendInit2 => exact ⟨[s.par.raw.initFrame2.toList], _, fun buf => congrArg _ (sendFixed_eq_answered _ _)⟩
  | reqChange mp mode fp fan sp swing tp temp => exact execReqChange_answers mp mode fp fan sp swing tp temp s
  | readState => exact ⟨[], readStateResponse s, fun buf => congrArg _ (respond_eq_answered _ { s with rxbuf := buf })⟩

/-- Everything a command can do: PROCESS, or one answer with some frames. -/
theorem exec_cases {i : Instr} {s t : State} (h : exec i s = .next t) :
    i = .process ∨ ∃ fs r, t = answered fs r s := by
  refine or_iff_not_imp_left.mpr fun hi => ?_
  obtain ⟨fs, r, hex⟩ := exec_answers hi s
  have hs : exec i s = .next (answered fs r s) := hex s.rxbuf
  exact ⟨fs, r, Host.Outcome.next.inj (h.symm.trans hs)⟩

/-- Every command ends in a next state. -/
theorem exec_next (i : Instr) (s : State) : ∃ t, exec i s = .next t := by
  by_cases hi : i = .process
  · subst hi; exact ⟨_, rfl⟩
  · obtain ⟨fs, r, hex⟩ := exec_answers hi s
    exact ⟨_, hex s.rxbuf⟩

/-- Every step ends in a next state (R120). -/
theorem safeStep (s : State) : SafeStep s := by
  cases hs : s.script with
  | nil => exact ⟨_, step_nil hs⟩
  | cons e rest =>
    cases e with
    | arrive b => exact ⟨_, step_arrive hs⟩
    | reset => exact ⟨_, step_reset hs⟩
    | command w =>
      cases hw : decode w with
      | error e => exact ⟨_, step_command_error hs hw⟩
      | ok i =>
        obtain ⟨t, ht⟩ := exec_next i { s with script := rest }
        exact ⟨t, (step_command_ok hs hw).trans ht⟩

end Sys2Proof.Machine

open Sys2Proof.Machine

/-- Settles O15: the codes, read off their definitions. -/
theorem codesFollowTheTables : Obligations.CodesFollowTheTables :=
  ⟨rfl, rfl, rfl, rfl, rfl, rfl⟩

/-- Settles O16: the equations of a step for an arrival and for no move at all. -/
theorem arrivalAppendsAndIdleHolds : Obligations.ArrivalAppendsAndIdleHolds :=
  ⟨fun _ _ _ => step_arrive, fun _ => step_nil⟩

/-- Settles O17: the equation of a step for the reset input, read field by field. -/
theorem resetInputSetsTheBlockOnly : Obligations.ResetInputSetsTheBlockOnly := fun _ _ h =>
  ⟨_, step_reset h, rfl, rfl, rfl, rfl, rfl, rfl, rfl, rfl, rfl, rfl⟩

/-- Settles O18: the fields of the reset state. -/
theorem resetStateHoldsSpecValues : Obligations.ResetStateHoldsSpecValues :=
  ⟨rfl, rfl, rfl, rfl, rfl, rfl⟩

end

section
/-! What one transition does in each state of the assembler, and how the loop of PROCESS ends: with nothing changed
outside the assembler, or with one candidate evaluated (spec/41_assembler.md R81, R84, R86, R88). -/

namespace Sys2Proof.Machine

/-! ## One equation of a transition per state -/

theorem asmStep_seek {s : State} (hs : s.asmState = .seek) (hq : s.rxq ≠ []) :
    asmStep s = { s with asmState := .rd1 } := by
  simp [asmStep, hs, (rxAvail_iff s).mpr hq]

section Read

variable {s : State} {b : Byte} {q : List Byte} (hq : s.rxq = b :: q)
include hq

theorem asmStep_rd1 (hs : s.asmState = .rd1) : asmStep s = asmFirstByte b { s with rxq := q } := by
  simp [asmStep, hs, rxRead_cons hq]

theorem asmStep_rd2 (hs : s.asmState = .rd2) : asmStep s = asmSecondByte b { s with rxq := q } := by
  simp [asmStep, hs, rxRead_cons hq]

theorem asmStep_body (hs : s.asmState = .body) : asmStep s = asmBodyByte b { s with rxq := q } := by
  simp [asmStep, hs, rxRead_cons hq]

end Read

/-! ## The three rows -/

theorem asmFirstByte_preamble (s : State) :
    asmFirstByte Config.preambleByte s =
      { rxbufWrite 0 Config.preambleByte s with asmCnt := 1, asmState := .rd2 } := if_pos rfl

theorem asmFirstByte_other {b : Byte} (h : b ≠ Config.preambleByte) (s : State) :
    asmFirstByte b s = { s with asmState := .seek } := if_neg h

theorem asmSecondByte_preamble (s : State) :
    asmSecondByte Config.preambleByte s =
      { rxbufWrite 1 Config.preambleByte s with asmCnt := 2, asmState := .body } := if_pos rfl

theorem asmSecondByte_other {b : Byte} (h : b ≠ Config.preambleByte) (s : State) :
    asmSecondByte b s = { s with asmCnt := 0, asmState := .seek } := if_neg h

@[simp] theorem asmFirstByte_rxq (b : Byte) (s : State) : (asmFirstByte b s).rxq = s.rxq := by
  unfold asmFirstByte; split <;> rfl

@[simp] theorem asmSecondByte_rxq (b : Byte) (s : State) : (asmSecondByte b s).rxq = s.rxq := by
  unfold asmSecondByte; split <;> rfl

@[simp] theorem asmBodyByte_rxq (b : Byte) (s : State) : (asmBodyByte b s).rxq = s.rxq := rfl

/-- With a byte waiting, a transition outside READY moves from SEEK to RD1 or reads that byte. -/
theorem asmStep_progress {s : State} {b : Byte} {q : List Byte} (hr : s.asmState ≠ .ready) (hq : s.rxq = b :: q) :
    (s.asmState = .seek ∧ asmStep s = { s with asmState := .rd1 }) ∨ (asmStep s).rxq = q := by
  cases hs : s.asmState with
  | seek => exact .inl ⟨rfl, asmStep_seek hs (by simp [hq])⟩
  | rd1 => right; simp [asmStep_rd1 hq hs]
  | rd2 => right; simp [asmStep_rd2 hq hs]
  | body => right; simp [asmStep_body hq hs]
  | ready => exact absurd hs hr

/-! ## How the loop ends -/

/-- The loop makes transitions and then leaves, with NONE or with the evaluation of a candidate. -/
theorem processLoop_ends (n : Nat) :
    ∀ s, ∃ u, SameOutsideAssembler s u ∧
      (processLoop n s = (u, .none) ∨ u.asmState = .ready ∧ processLoop n s = frameReadyEval u) := by
  induction n with
  | zero => exact fun s => ⟨s, .rfl' s, .inl rfl⟩
  | succ n ih =>
    intro s
    by_cases hr : s.asmState = .ready
    · exact ⟨s, .rfl' s, .inr ⟨hr, processLoop_ready hr⟩⟩
    · by_cases hq : s.rxq = []
      · exact ⟨s, .rfl' s, .inl (processLoop_wait hr hq)⟩
      · obtain ⟨u, hsame, hend⟩ := ih (asmStep s)
        rw [processLoop_step hr hq]
        exact ⟨u, (asmStep_frame s).trans hsame, hend⟩

/-- What the loop of PROCESS does outside the assembler: nothing, or the acceptance of the candidate it held. -/
theorem processRun_cases (s : State) :
    ((processRun s).2 ≠ .accepted ∧ SameOutsideAssembler s (processRun s).1) ∨
    ((processRun s).2 = .accepted ∧ ∃ u, SameOutsideAssembler s u ∧ frameVerdict u.par u.rxbuf = .accepted ∧
      (processRun s).1 = { acceptUpdate u with asmCnt := 0, asmState := .seek }) := by
  obtain ⟨u, hsame, hend⟩ := processLoop_ends (processFuel s) s
  rw [processRun]
  rcases hend with hend | ⟨-, hend⟩
  · left; rw [hend]; exact ⟨by simp, hsame⟩
  · rcases frameReadyEval_cases u with ⟨hv, he⟩ | ⟨hv, he⟩ <;> rw [hend, he]
    · exact .inr ⟨rfl, u, hsame, hv, rfl⟩
    · exact .inl ⟨hv, hsame.trans ⟨rfl, rfl, rfl, rfl, rfl, rfl, rfl⟩⟩

/-- The loop's answer at one of its two exits: NONE with nothing left to read and no candidate to evaluate,
or a verdict with the assembler back in SEEK. -/
def GenuineExit (r : State × FrameEvt) : Prop :=
  (r.2 = .none ∧ r.1.rxq = [] ∧ r.1.asmState ≠ .ready) ∨ (r.2 ≠ .none ∧ r.1.asmState = .seek ∧ r.1.asmCnt = 0)

/-- Whatever the verdict, an evaluation ends in SEEK with count 0 (R84). -/
theorem frameReadyEval_seek (s : State) :
    (frameReadyEval s).1.asmState = .seek ∧ (frameReadyEval s).1.asmCnt = 0 := ⟨rfl, rfl⟩

theorem genuineExit_frameReadyEval (s : State) : GenuineExit (frameReadyEval s) :=
  .inr ⟨frameVerdict_ne_none _ _, frameReadyEval_seek s⟩

/-- The fuel of R88 is enough: each byte costs two calls at most, the first of them only in SEEK. -/
theorem genuineExit_processLoop (n : Nat) :
    ∀ s, 0 < n → 2 * s.rxq.length ≤ n → (s.asmState = .seek → 2 * s.rxq.length < n) →
      GenuineExit (processLoop n s) := by
  induction n with
  | zero => intro s hpos; exact absurd hpos (by omega)
  | succ n ih =>
    intro s _ hle hseek
    by_cases hr : s.asmState = .ready
    · rw [processLoop_ready hr]; exact genuineExit_frameReadyEval s
    · cases hq : s.rxq with
      | nil => rw [processLoop_wait hr hq]; exact .inl ⟨rfl, hq, hr⟩
      | cons b q =>
        rw [processLoop_step hr (by simp [hq])]
        simp only [hq, List.length_cons] at hle hseek
        rcases asmStep_progress hr hq with ⟨hs, hstep⟩ | hstep
        · have := hseek hs
          exact ih _ (by omega) (by simp [hstep, hq]; omega) (by simp [hstep])
        · exact ih _ (by omega) (by rw [hstep]; omega) (by rw [hstep]; omega)

/-- The loop of PROCESS leaves by a genuine exit, never for want of fuel (R88). -/
theorem genuineExit_processRun (s : State) : GenuineExit (processRun s) :=
  genuineExit_processLoop _ s (by simp [processFuel]) (by simp [processFuel]) (by simp [processFuel])

end Sys2Proof.Machine

end

section
/-! The invariant of the states between two moves (spec/10_state.md R18, R19, R24, spec/41_assembler.md R87,
spec/42_status_decoder.md R99): what the loop of PROCESS keeps of it, and that every step keeps it. -/

namespace Sys2Proof.Machine

/-! ## Steps that leave the block alone -/

/-- `t` agrees with `s` on every element of the block (R15) and on the parameters. -/
structure SameBlock (s t : State) : Prop where
  asmState : t.asmState = s.asmState
  asmCnt : t.asmCnt = s.asmCnt
  rxbuf : t.rxbuf = s.rxbuf
  statusValid : t.statusValid = s.statusValid
  ds : t.ds = s.ds
  mm : t.mm = s.mm
  par : t.par = s.par

/-- The invariant speaks of the block only. -/
theorem State.Inv.of_sameBlock {s t : State} (hi : s.Inv) (h : SameBlock s t) : t.Inv := by
  obtain ⟨hstate, hcnt, hbuf, hvalid, hds, hmm, hpar⟩ := h
  obtain ⟨hcount, hpre, hlatch, hquiet, hsane, hbound⟩ := hi
  constructor
  · simpa [CountMatches, hstate, hcnt] using hcount
  · simpa [PreambleHeld, hcnt, hbuf] using hpre
  · simpa [LatchMatches, hvalid, hds] using hlatch
  · simpa [Quiescent, hstate] using hquiet
  · simpa [DsSane, hds, hpar] using hsane
  · simpa [ModeMemoryBounded, hmm] using hbound

/-- The reset input leaves a state that meets the invariant, whatever was before. -/
theorem resetBlock_inv (s : State) : (resetBlock s).Inv where
  count := rfl
  preamble := ⟨fun h => absurd h (by simp), fun h => absurd h (by simp)⟩
  latch := rfl
  quiescent := .inl rfl
  dsSane := fun _ h => by cases h
  mmBounded := by simp [ModeMemoryBounded, ModeMemory.reset, Config.mmClimateDefaultSet, Config.mmFanOnlyDefaultSet]

/-! ## The device part of the invariant over PROCESS -/

/-- What an accepted candidate has passed. -/
theorem plausible_of_accepted {par : Params} {buf : Vector Byte 47} (h : frameVerdict par buf = .accepted) :
    plausible par (statusDecode par buf) = true := by
  unfold frameVerdict validate at h
  split at h
  · cases h
  · split at h
    · split at h
      · assumption
      · cases h
    · cases h

theorem modeCode_lowNibble (mf : Byte) : modeCode mf &&& 0x0F = 0 := by
  rw [modeCode, BitVec.and_assoc]
  exact BitVec.and_zero

/-- A plausible decoded status meets R99 (a) and (c). -/
theorem deviceStateSane_statusDecode {par : Params} {buf : Vector Byte 47}
    (h : plausible par (statusDecode par buf) = true) : DeviceStateSane par (statusDecode par buf) := by
  simp only [plausible, Bool.and_eq_true, decide_eq_true_eq] at h
  obtain ⟨⟨hlow, hhigh⟩, hset⟩ := h
  exact ⟨hset, hlow, hhigh, modeCode_lowNibble _⟩

/-- The slot that MMUpdate refreshes takes a setpoint that is in its range (R99 (b)). -/
theorem mmUpdate_bounded {d : DeviceState} {mm : ModeMemory} (hd : d.setpoint.toNat ≤ 14)
    (hmm : mm.climSet.toNat ≤ 14 ∧ mm.fanSet.toNat ≤ 14) :
    (mmUpdate d mm).climSet.toNat ≤ 14 ∧ (mmUpdate d mm).fanSet.toNat ≤ 14 := by
  unfold mmUpdate
  split
  · exact ⟨hmm.1, hd⟩
  · exact ⟨hd, hmm.2⟩

/-- The part of the invariant that speaks of STATUS_VALID, DS and MM. -/
structure DeviceInv (s : State) : Prop where
  latch : LatchMatches s
  dsSane : DsSane s
  mmBounded : ModeMemoryBounded s

theorem DeviceInv.of_same {s t : State} (hi : DeviceInv s) (h : SameOutsideAssembler s t) : DeviceInv t := by
  obtain ⟨hlatch, hsane, hbound⟩ := hi
  constructor
  · simpa [LatchMatches, h.statusValid, h.ds] using hlatch
  · simpa [DsSane, h.ds, h.par] using hsane
  · simpa [ModeMemoryBounded, h.mm] using hbound

theorem DeviceInv.acceptUpdate {s : State} (hi : DeviceInv s) (h : frameVerdict s.par s.rxbuf = .accepted) :
    DeviceInv (acceptUpdate s) := by
  have hsane := deviceStateSane_statusDecode (plausible_of_accepted h)
  exact ⟨rfl, fun d hd => Option.some.inj hd ▸ hsane, mmUpdate_bounded hsane.1 hi.mmBounded⟩

theorem processRun_deviceInv {s : State} (hi : DeviceInv s) : DeviceInv (processRun s).1 := by
  rcases processRun_cases s with ⟨-, hsame⟩ | ⟨-, u, hsame, hv, ht⟩
  · exact hi.of_same hsame
  · rw [ht]
    exact ((hi.of_same hsame).acceptUpdate hv).of_same ⟨rfl, rfl, rfl, rfl, rfl, rfl, rfl⟩

/-! ## The assembler part of the invariant over PROCESS -/

/-- The count of R18 is kept by every row of R81. -/
theorem asmStep_countMatches {s : State} (hc : CountMatches s) : CountMatches (asmStep s) := by
  rcases asmStep_cases s with ⟨h, -⟩ | ⟨hs, -, h⟩ | ⟨b, q, -, ⟨hs, h⟩ | ⟨hs, h⟩ | ⟨hs, h⟩⟩ <;> rw [h]
  · exact hc
  · simpa [CountMatches, hs] using hc
  · have h0 : s.asmCnt = 0 := by simpa [CountMatches, hs] using hc
    by_cases hb : b = Config.preambleByte
    · subst hb; rw [asmFirstByte_preamble]; exact rfl
    · rw [asmFirstByte_other hb]; exact h0
  · by_cases hb : b = Config.preambleByte
    · subst hb; rw [asmSecondByte_preamble]; exact (by decide : 2 ≤ 2 ∧ 2 ≤ 46)
    · rw [asmSecondByte_other hb]; exact rfl
  · have hrange : 2 ≤ s.asmCnt ∧ s.asmCnt ≤ 46 := by simpa [CountMatches, hs] using hc
    by_cases hlast : s.asmCnt + 1 = 47
    · simp [CountMatches, asmBodyByte, hlast]
    · simp [CountMatches, asmBodyByte, hlast]; omega

/-- The preamble bytes are written by the first two rows and by no other (R19 (b), (c)). -/
theorem asmStep_preambleHeld {s : State} (hc : CountMatches s) (hp : PreambleHeld s) : PreambleHeld (asmStep s) := by
  rcases asmStep_cases s with ⟨h, -⟩ | ⟨hs, -, h⟩ | ⟨b, q, -, ⟨hs, h⟩ | ⟨hs, h⟩ | ⟨hs, h⟩⟩ <;> rw [h]
  · exact hp
  · exact hp
  · by_cases hb : b = Config.preambleByte
    · subst hb; simp [asmFirstByte_preamble, PreambleHeld]
    · rw [asmFirstByte_other hb]; exact hp
  · have h1 : s.asmCnt = 1 := by simpa [CountMatches, hs] using hc
    by_cases hb : b = Config.preambleByte
    · subst hb; simp [asmSecondByte_preamble, PreambleHeld, hp.1 (by omega)]
    · simp [asmSecondByte_other hb, PreambleHeld]
  · have hrange : 2 ≤ s.asmCnt ∧ s.asmCnt ≤ 46 := by simpa [CountMatches, hs] using hc
    have h0 : s.asmCnt ≠ 0 := by omega
    have h1 : s.asmCnt ≠ 1 := by omega
    simp [asmBodyByte, PreambleHeld, h0, h1, hp.1 (by omega), hp.2 (by omega)]

/-- The part of the invariant that speaks of the assembler, as it holds inside the loop of PROCESS too: RD1 is
entered only with a byte to read. -/
structure AssemblerInv (s : State) : Prop where
  count : CountMatches s
  preamble : PreambleHeld s
  pending : s.asmState = .rd1 → s.rxq ≠ []

/-- SEEK with count 0, as every evaluation leaves it, meets the assembler's invariant. -/
theorem assemblerInv_of_seek {s : State} (hs : s.asmState = .seek) (hc : s.asmCnt = 0) : AssemblerInv s where
  count := by simpa [CountMatches, hs] using hc
  preamble := by simp [PreambleHeld, hc]
  pending := by simp [hs]

theorem asmStep_pending {s : State} (hp : s.asmState = .rd1 → s.rxq ≠ []) :
    (asmStep s).asmState = .rd1 → (asmStep s).rxq ≠ [] := by
  rcases asmStep_cases s with ⟨h, -⟩ | ⟨-, hq, h⟩ | ⟨b, q, -, ⟨-, h⟩ | ⟨-, h⟩ | ⟨-, h⟩⟩ <;> rw [h]
  · exact hp
  · exact fun _ => hq
  · unfold asmFirstByte; split <;> simp
  · unfold asmSecondByte; split <;> simp
  · unfold asmBodyByte; dsimp only; split <;> simp

theorem processRun_assemblerInv {s : State} (hi : AssemblerInv s) : AssemblerInv (processRun s).1 := by
  refine processLoop_keeps (P := AssemblerInv) (fun u _ hu => ?_) (fun u _ _ => ?_) _ s hi
  · exact ⟨asmStep_countMatches hu.count, asmStep_preambleHeld hu.count hu.preamble, asmStep_pending hu.pending⟩
  · exact assemblerInv_of_seek (frameReadyEval_seek u).1 (frameReadyEval_seek u).2

/-- PROCESS ends in SEEK, RD2 or BODY (R87): with nothing left to read it is not in RD1. -/
theorem processRun_quiescent {s : State} (hi : AssemblerInv s) : Quiescent (processRun s).1 := by
  have hpending := (processRun_assemblerInv hi).pending
  rcases genuineExit_processRun s with ⟨-, hq, hr⟩ | ⟨-, hs, -⟩
  · cases hs : (processRun s).1.asmState with
    | seek => exact .inl hs
    | rd1 => exact absurd hq (hpending hs)
    | rd2 => exact .inr (.inl hs)
    | body => exact .inr (.inr hs)
    | ready => exact absurd hs hr
  · exact .inl hs

/-! ## Every step keeps the invariant -/

theorem State.Inv.assemblerInv {s : State} (hi : s.Inv) : AssemblerInv s where
  count := hi.count
  preamble := hi.preamble
  pending := fun h => by rcases hi.quiescent with hs | hs | hs <;> rw [hs] at h <;> cases h

theorem processRun_inv {s : State} (hi : s.Inv) : (processRun s).1.Inv := by
  obtain ⟨hcount, hpre, -⟩ := processRun_assemblerInv hi.assemblerInv
  obtain ⟨hlatch, hsane, hbound⟩ := processRun_deviceInv ⟨hi.latch, hi.dsSane, hi.mmBounded⟩
  exact ⟨hcount, hpre, hlatch, processRun_quiescent hi.assemblerInv, hsane, hbound⟩

theorem exec_inv {i : Instr} {s t : State} (hi : s.Inv) (h : exec i s = .next t) : t.Inv := by
  rcases exec_cases h with rfl | ⟨fs, r, rfl⟩
  · cases h
    exact (processRun_inv hi).of_sameBlock ⟨rfl, rfl, rfl, rfl, rfl, rfl, rfl⟩
  · exact hi.of_sameBlock ⟨rfl, rfl, rfl, rfl, rfl, rfl, rfl⟩

theorem step_inv {s t : State} (hi : s.Inv) (h : step s = .next t) : t.Inv := by
  rcases step_cases h with ⟨-, rfl⟩ | ⟨b, rest, -, rfl⟩ | ⟨rest, -, rfl⟩ | ⟨w, rest, i, -, -, hex⟩ |
    ⟨w, rest, e, -, -, rfl⟩
  · exact hi
  · exact hi.of_sameBlock ⟨rfl, rfl, rfl, rfl, rfl, rfl, rfl⟩
  · exact resetBlock_inv _
  · have hrest : State.Inv { s with script := rest } := hi.of_sameBlock ⟨rfl, rfl, rfl, rfl, rfl, rfl, rfl⟩
    exact exec_inv hrest hex
  · exact hi.of_sameBlock ⟨rfl, rfl, rfl, rfl, rfl, rfl, rfl⟩

/-- The state right after reset is what the reset input makes of it. -/
theorem resetWith_inv (p : Params) (script : List Event) :
    State.Inv { State.resetWith p with script := script } :=
  resetBlock_inv { State.resetWith p with script := script }

theorem reachable_inv {s : State} (h : Reachable s) : s.Inv := by
  induction h with
  | start p script => exact resetWith_inv p script
  | next _ hstep ih => exact step_inv ih hstep

end Sys2Proof.Machine

open Sys2Proof.Machine

/-- Settles O57: the invariant's assembler part and device part, each kept by PROCESS; the other moves leave the block
alone or reset it. -/
theorem stepKeepsTheInvariant : Obligations.StepKeepsTheInvariant := fun _ _ => step_inv

/-- Settles O58: a reset block meets the invariant. -/
theorem resetMeetsTheInvariant : Obligations.ResetMeetsTheInvariant :=
  ⟨resetWith_inv Sys2Proof.Config.params [], resetWith_inv⟩

/-- Settles O59, by induction on the run. -/
theorem reachableStatesAreSane : Obligations.ReachableStatesAreSane := fun s h =>
  ⟨reachable_inv h, safeStep s⟩

end

section
/-! The only two ways DS, MM and STATUS_VALID change: the reset input, and a PROCESS that accepts a candidate
(spec/10_state.md R21, R23, R26). -/

namespace Sys2Proof

/-- A word is put together from its opcode and its other 28 bits. -/
theorem word_eq_of_opcode {w : Word} {k : Nat} (hop : (opcodeOf w).toNat = k) (hrest : w.extractLsb' 4 28 = 0) :
    w = BitVec.ofNat 32 k := by
  have hhigh : w.toNat / 2 ^ 4 % 2 ^ 28 = 0 := by
    simpa [Nat.shiftRight_eq_div_pow] using congrArg BitVec.toNat hrest
  have hlow : w.toNat % 2 ^ 4 = k := by simpa [opcodeOf] using hop
  apply BitVec.eq_of_toNat_eq
  rw [BitVec.toNat_ofNat]
  have := w.isLt
  omega

/-- PROCESS has one word. -/
theorem decode_process {w : Word} (h : decode w = .ok .process) : w = 0x00000001 := by
  rcases decode_cases h with ⟨hop, hw⟩ | ⟨-, hw⟩ | ⟨-, hw⟩ | ⟨-, hw⟩ | ⟨-, hw⟩ | ⟨-, hw⟩
  · exact word_eq_of_opcode hop (decodeNoArg_ok hw).2
  · cases (decodeNoArg_ok hw).1
  · cases (decodeNoArg_ok hw).1
  · cases (decodeNoArg_ok hw).1
  · cases (decodeReqChange_ok hw).1
  · cases (decodeNoArg_ok hw).1

end Sys2Proof

namespace Sys2Proof.Machine

/-- DS, MM and STATUS_VALID are as they were. -/
def SameDevice (s t : State) : Prop := t.ds = s.ds ∧ t.mm = s.mm ∧ t.statusValid = s.statusValid

/-- The one new response of the move reports an accepted frame, and the latch is set. -/
def Accepts (s t : State) : Prop :=
  ∃ r : Response, t.rsplog = s.rsplog ++ [r] ∧ r.evt = some .accepted ∧ t.statusValid = true

/-- PROCESS keeps DS, MM and the latch unless it accepts (R97). -/
theorem execProcess_device {s t : State} (h : exec .process s = .next t) : SameDevice s t ∨ Accepts s t := by
  cases h
  rcases processRun_cases s with ⟨-, hsame⟩ | ⟨hv, u, hsame, -, ht⟩
  · exact .inl ⟨hsame.ds, hsame.mm, hsame.statusValid⟩
  · right
    refine ⟨processResponse (processRun s).2 (processRun s).1, ?_, congrArg some hv, ?_⟩
    · simp [ht, hsame.rsplog]
    · simp [ht]

/-- Everything a step can do to DS, MM and the latch. -/
theorem step_device {s t : State} (h : step s = .next t) :
    SameDevice s t ∨ (∃ rest, s.script = .reset :: rest) ∨
      (∃ rest, s.script = .command 0x00000001 :: rest) ∧ Accepts s t := by
  rcases step_cases h with ⟨-, rfl⟩ | ⟨b, rest, -, rfl⟩ | ⟨rest, hs, -⟩ | ⟨w, rest, i, hs, hw, hex⟩ |
    ⟨w, rest, e, -, -, rfl⟩
  · exact .inl ⟨rfl, rfl, rfl⟩
  · exact .inl ⟨rfl, rfl, rfl⟩
  · exact .inr (.inl ⟨rest, hs⟩)
  · rcases exec_cases hex with rfl | ⟨fs, r, rfl⟩
    · rcases execProcess_device hex with hsame | hacc
      · exact .inl hsame
      · exact .inr (.inr ⟨⟨rest, decode_process hw ▸ hs⟩, hacc⟩)
    · exact .inl ⟨rfl, rfl, rfl⟩
  · exact .inl ⟨rfl, rfl, rfl⟩

/-- The reset input clears the latch. -/
theorem step_reset_statusValid {s t : State} {rest : List Event} (hs : s.script = .reset :: rest)
    (h : step s = .next t) : t.statusValid = false := by
  rw [step_reset hs] at h
  cases h
  rfl

end Sys2Proof.Machine

open Sys2Proof.Machine

/-- Settles O53: PROCESS changes the device state only by acceptance, and no other move but reset touches it. -/
theorem onlyAcceptanceOrResetChangesDeviceState : Obligations.OnlyAcceptanceOrResetChangesDeviceState := by
  intro s t h
  rcases step_device h with hsame | hreset | ⟨⟨rest, hs⟩, r, hlog, hevt, hvalid⟩
  · exact .inl hsame
  · exact .inr (.inl hreset)
  · exact .inr (.inr ⟨rest, r, hs, hlog, hevt, hvalid⟩)

/-- Settles O54: of the three things a step can do to the latch, acceptance alone sets it and reset alone clears
it. -/
theorem firstStatusLatchIsPermanent : Obligations.FirstStatusLatchIsPermanent := by
  refine ⟨fun _ => rfl, fun s t h h0 h1 => ?_, fun s t h h1 hnr => ?_⟩
  · rcases step_device h with ⟨-, -, hsame⟩ | ⟨rest, hs⟩ | ⟨⟨rest, hs⟩, r, hlog, hevt, -⟩
    · rw [hsame, h0] at h1; cases h1
    · rw [step_reset_statusValid hs h] at h1; cases h1
    · exact ⟨rest, r, hs, hlog, hevt⟩
  · rcases step_device h with ⟨-, -, hsame⟩ | ⟨rest, hs⟩ | ⟨-, r, -, -, hvalid⟩
    · exact hsame.trans h1
    · exact absurd hs (hnr rest)
    · exact hvalid

end

section
/-! Noninterference of the RXBUF bytes that hold no value (spec/10_state.md R20, spec/41_assembler.md R85): no
operation reads a byte at or beyond ASM_CNT, so two states that differ in such bytes only stay so. -/

namespace Sys2Proof.Machine

/-! ## The relation -/

/-- The second state is the first with another RXBUF, equal to it in the bytes held. -/
theorem agreeButStale_iff {s t : State} :
    AgreeButStale s t ↔
      ∃ buf, t = { s with rxbuf := buf } ∧ ∀ i, (h : i < 47) → i < s.asmCnt → s.rxbuf[i] = buf[i] := by
  constructor
  · exact fun ⟨hheld, ht⟩ => ⟨t.rxbuf, ht.symm, hheld⟩
  · rintro ⟨buf, rfl, hheld⟩
    exact ⟨hheld, rfl⟩

theorem AgreeButStale.refl (s : State) : AgreeButStale s s := ⟨fun _ _ _ => rfl, rfl⟩

/-- States that hold all 47 bytes are equal. -/
theorem AgreeButStale.eq_of_full {s t : State} (h : AgreeButStale s t) (hc : s.asmCnt = 47) : s = t := by
  obtain ⟨buf, rfl, hheld⟩ := agreeButStale_iff.mp h
  have hbuf : s.rxbuf = buf := Vector.ext fun i hi => hheld i hi (by omega)
  rw [← hbuf]

/-- An operation that neither reads nor writes RXBUF, and holds no more bytes after than before, keeps the
relation. -/
theorem AgreeButStale.map {f : State → State} {s t : State}
    (hf : ∀ buf, f { s with rxbuf := buf } = { f s with rxbuf := buf }) (hbuf : (f s).rxbuf = s.rxbuf)
    (hcnt : (f s).asmCnt ≤ s.asmCnt) (h : AgreeButStale s t) : AgreeButStale (f s) (f t) := by
  obtain ⟨buf, rfl, hheld⟩ := agreeButStale_iff.mp h
  refine agreeButStale_iff.mpr ⟨buf, hf buf, fun i hi hlt => ?_⟩
  simpa only [hbuf] using hheld i hi (by omega)

/-- Writing the next byte, at index ASM_CNT, makes one more byte that is held, the same in both. -/
theorem AgreeButStale.write {s t : State} (h : AgreeButStale s t) (b : Byte) (a : AsmState) :
    AgreeButStale { rxbufWrite s.asmCnt b s with asmCnt := s.asmCnt + 1, asmState := a }
      { rxbufWrite s.asmCnt b t with asmCnt := s.asmCnt + 1, asmState := a } := by
  obtain ⟨buf, rfl, hheld⟩ := agreeButStale_iff.mp h
  refine agreeButStale_iff.mpr ⟨buf.setIfInBounds s.asmCnt b, rfl, fun i hi hlt => ?_⟩
  by_cases hnew : s.asmCnt = i
  · simp [hnew]
  · have hold : i < s.asmCnt := by
      have : i < s.asmCnt + 1 := hlt
      omega
    simpa [Vector.getElem_setIfInBounds, hnew] using hheld i hi hold

/-! ## One transition -/

theorem AgreeButStale.asmFirstByte {s t : State} (h : AgreeButStale s t) (hc : s.asmCnt = 0) (b : Byte) :
    AgreeButStale (asmFirstByte b s) (asmFirstByte b t) := by
  by_cases hb : b = Config.preambleByte
  · subst hb
    simpa only [asmFirstByte_preamble, hc] using h.write Config.preambleByte .rd2
  · rw [asmFirstByte_other hb, asmFirstByte_other hb]
    exact h.map (f := fun u => { u with asmState := .seek }) (fun _ => rfl) rfl le_rfl

theorem AgreeButStale.asmSecondByte {s t : State} (h : AgreeButStale s t) (hc : s.asmCnt = 1) (b : Byte) :
    AgreeButStale (asmSecondByte b s) (asmSecondByte b t) := by
  by_cases hb : b = Config.preambleByte
  · subst hb
    simpa only [asmSecondByte_preamble, hc] using h.write Config.preambleByte .body
  · rw [asmSecondByte_other hb, asmSecondByte_other hb]
    exact h.map (f := fun u => { u with asmCnt := 0, asmState := .seek }) (fun _ => rfl) rfl (Nat.zero_le _)

theorem AgreeButStale.asmBodyByte {s t : State} (h : AgreeButStale s t) (b : Byte) :
    AgreeButStale (asmBodyByte b s) (asmBodyByte b t) := by
  have hcnt : t.asmCnt = s.asmCnt := by rw [← h.2]
  simpa only [Machine.asmBodyByte, hcnt] using h.write b _

/-- A transition reads no byte of RXBUF and writes the next one only. -/
theorem AgreeButStale.asmStep {s t : State} {b : Byte} {q : List Byte} (h : AgreeButStale s t) (hc : CountMatches s)
    (hq : s.rxq = b :: q) : AgreeButStale (asmStep s) (asmStep t) := by
  have hstate : t.asmState = s.asmState := by rw [← h.2]
  have hqt : t.rxq = b :: q := by rw [← h.2]; exact hq
  have hpop : AgreeButStale { s with rxq := q } { t with rxq := q } :=
    h.map (f := fun u => { u with rxq := q }) (fun _ => rfl) rfl le_rfl
  cases hs : s.asmState with
  | seek =>
    rw [asmStep_seek hs (by simp [hq]), asmStep_seek (hstate.trans hs) (by simp [hqt])]
    exact h.map (f := fun u => { u with asmState := .rd1 }) (fun _ => rfl) rfl le_rfl
  | rd1 =>
    rw [asmStep_rd1 hq hs, asmStep_rd1 hqt (hstate.trans hs)]
    exact hpop.asmFirstByte (by simpa [CountMatches, hs] using hc) b
  | rd2 =>
    rw [asmStep_rd2 hq hs, asmStep_rd2 hqt (hstate.trans hs)]
    exact hpop.asmSecondByte (by simpa [CountMatches, hs] using hc) b
  | body =>
    rw [asmStep_body hq hs, asmStep_body hqt (hstate.trans hs)]
    exact hpop.asmBodyByte b
  | ready =>
    rw [h.eq_of_full (by simpa [CountMatches, hs] using hc)]
    exact .refl _

/-! ## PROCESS -/

/-- The loop makes the same transitions from both states, and when it evaluates, all 47 bytes are held and the
states are equal. -/
theorem AgreeButStale.processLoop (n : Nat) :
    ∀ {s t}, AgreeButStale s t → CountMatches s →
      AgreeButStale (processLoop n s).1 (processLoop n t).1 ∧ (processLoop n s).2 = (processLoop n t).2 := by
  induction n with
  | zero => exact fun h _ => ⟨h, rfl⟩
  | succ n ih =>
    intro s t h hc
    have hstate : t.asmState = s.asmState := by rw [← h.2]
    have hrxq : t.rxq = s.rxq := by rw [← h.2]
    by_cases hr : s.asmState = .ready
    · rw [h.eq_of_full (by simpa [CountMatches, hr] using hc)]
      exact ⟨.refl _, rfl⟩
    · have hrt : t.asmState ≠ .ready := hstate ▸ hr
      cases hq : s.rxq with
      | nil =>
        rw [processLoop_wait hr hq, processLoop_wait hrt (hrxq.trans hq)]
        exact ⟨h, rfl⟩
      | cons b q =>
        rw [processLoop_step hr (by simp [hq]), processLoop_step hrt (by simp [hrxq, hq])]
        exact ih (h.asmStep hc hq) (asmStep_countMatches hc)

theorem AgreeButStale.execProcess {s t : State} (h : AgreeButStale s t) (hc : CountMatches s) :
    ∃ s' t', exec .process s = .next s' ∧ exec .process t = .next t' ∧ AgreeButStale s' t' := by
  have hfuel : processFuel t = processFuel s := by rw [← h.2]; rfl
  obtain ⟨hrun, hevt⟩ := h.processLoop (processFuel s) hc
  refine ⟨_, _, rfl, rfl, ?_⟩
  rw [processRun, processRun, hfuel, ← hevt]
  exact hrun.map (f := fun u => respond (processResponse _ u) u) (fun _ => rfl) rfl le_rfl

/-! ## A step -/

theorem AgreeButStale.exec {s t : State} (h : AgreeButStale s t) (hc : CountMatches s) (i : Instr) :
    ∃ s' t', exec i s = .next s' ∧ exec i t = .next t' ∧ AgreeButStale s' t' := by
  by_cases hi : i = .process
  · subst hi; exact h.execProcess hc
  · obtain ⟨fs, r, hex⟩ := exec_answers hi s
    have ht := hex t.rxbuf
    rw [h.2] at ht
    exact ⟨_, _, hex s.rxbuf, ht, h.map (f := answered fs r) (fun _ => rfl) rfl le_rfl⟩

theorem AgreeButStale.step {s t : State} (h : AgreeButStale s t) (hc : CountMatches s) :
    ∃ s' t', step s = .next s' ∧ step t = .next t' ∧ AgreeButStale s' t' := by
  have hscript : t.script = s.script := by rw [← h.2]
  cases hs : s.script with
  | nil => exact ⟨s, t, step_nil hs, step_nil (hscript.trans hs), h⟩
  | cons e rest =>
    have hst := hscript.trans hs
    have htake : AgreeButStale { s with script := rest } { t with script := rest } :=
      h.map (f := fun u => { u with script := rest }) (fun _ => rfl) rfl le_rfl
    cases e with
    | arrive b =>
      exact ⟨_, _, step_arrive hs, step_arrive hst, htake.map (f := rxArrive b) (fun _ => rfl) rfl le_rfl⟩
    | reset =>
      refine ⟨_, _, step_reset hs, step_reset hst, ?_⟩
      rw [← htake.2]
      exact .refl _
    | command w =>
      cases hw : decode w with
      | error e =>
        exact ⟨_, _, step_command_error hs hw, step_command_error hst hw,
          htake.map (f := raiseOutcome .illegalCmd) (fun _ => rfl) rfl le_rfl⟩
      | ok i =>
        rw [step_command_ok hs hw, step_command_ok hst hw]
        exact htake.exec hc i

end Sys2Proof.Machine

open Sys2Proof.Machine

/-- Settles O29: each operation keeps the relation of states that differ in stale bytes only. -/
theorem staleReceiveBytesNeverShow : Obligations.StaleReceiveBytesNeverShow := fun _ _ hc h => h.step hc

end

section
/-! The bytes of a candidate are held in the order of their arrival (spec/10_state.md R19 (d), spec/41_assembler.md
R86). -/

namespace Sys2Proof.Machine

/-- RXBUF begins with the bytes `held`, in order. -/
def BeginsWith (buf : Vector Byte 47) (held : List Byte) : Prop :=
  ∀ i, (h : i < 47) → i < held.length → some buf[i] = held[i]?

theorem beginsWith_nil (buf : Vector Byte 47) : BeginsWith buf [] := fun _ _ h => absurd h (Nat.not_lt_zero _)

/-- A write behind the bytes held adds one byte to them. -/
theorem BeginsWith.append {buf : Vector Byte 47} {held : List Byte} (h : BeginsWith buf held) (b : Byte) :
    BeginsWith (buf.setIfInBounds held.length b) (held ++ [b]) := by
  intro i hi hlt
  by_cases hnew : i = held.length
  · simp [hnew]
  · have hold : i < held.length := by
      rw [List.length_append, List.length_singleton] at hlt
      omega
    simpa [Vector.getElem_setIfInBounds, Ne.symm hnew, List.getElem?_append_left hold] using h i hi hold

/-- The state in which both preamble bytes have been read and `rest` waits. -/
def preambleRead (s : State) (rest : List Byte) : State :=
  { s with
    asmState := .body
    asmCnt := 2
    rxq := rest
    rxbuf := (s.rxbuf.setIfInBounds 0 Config.preambleByte).setIfInBounds 1 Config.preambleByte }

theorem preambleRead_beginsWith (s : State) (rest : List Byte) :
    BeginsWith (preambleRead s rest).rxbuf [Config.preambleByte, Config.preambleByte] :=
  ((beginsWith_nil s.rxbuf).append _).append _

/-- From SEEK the two preamble bytes take three transitions. -/
theorem processLoop_preamble {s : State} {rest : List Byte} (n : Nat) (hs : s.asmState = .seek)
    (hq : s.rxq = Config.preambleByte :: Config.preambleByte :: rest) :
    processLoop (n + 3) s = processLoop n (preambleRead s rest) := by
  rw [processLoop_step (by simp [hs]) (by simp [hq]), asmStep_seek hs (by simp [hq]),
    processLoop_step (by simp) (by simp [hq]), asmStep_rd1 (s := { s with asmState := .rd1 }) hq rfl,
    asmFirstByte_preamble, processLoop_step (by simp) (by simp), asmStep_rd2 rfl rfl, asmSecondByte_preamble]
  rfl

/-- In BODY the loop collects the bytes that wait, as long as they do not complete the candidate. -/
theorem processLoop_collects (q : List Byte) :
    ∀ (n : Nat) (s : State) (held : List Byte), s.asmState = .body → s.rxq = q → s.asmCnt = held.length →
      BeginsWith s.rxbuf held → held.length + q.length < 47 → q.length < n →
      ∃ t, processLoop n s = (t, .none) ∧ t.asmState = .body ∧ t.rxq = [] ∧
        t.asmCnt = held.length + q.length ∧ BeginsWith t.rxbuf (held ++ q) := by
  induction q with
  | nil =>
    intro n s held hs hq hcnt hheld _ hn
    rw [List.length_nil] at hn
    obtain ⟨m, rfl⟩ : ∃ m, n = m + 1 := ⟨n - 1, by omega⟩
    rw [processLoop_wait (by simp [hs]) hq]
    exact ⟨s, rfl, hs, hq, hcnt, by simpa using hheld⟩
  | cons b q ih =>
    intro n s held hs hq hcnt hheld hlt hn
    rw [List.length_cons] at hlt hn
    obtain ⟨m, rfl⟩ : ∃ m, n = m + 1 := ⟨n - 1, by omega⟩
    rw [processLoop_step (by simp [hs]) (by simp [hq]), asmStep_body hq hs]
    have hmore : s.asmCnt + 1 ≠ 47 := by omega
    obtain ⟨t, ht, hbody, hempty, hlen, hbuf⟩ := ih m (asmBodyByte b { s with rxq := q }) (held ++ [b])
      (by simp [asmBodyByte, hmore]) rfl (by simp [asmBodyByte, hcnt])
      (by simpa [asmBodyByte, hcnt] using hheld.append b) (by simp; omega) (by omega)
    exact ⟨t, ht, hbody, hempty, by simp [hlen]; omega, by simpa using hbuf⟩

/-- From SEEK with the preamble and fewer than 45 body bytes waiting, the loop reads them all and answers NONE. -/
theorem processRun_partial {s : State} {body : List Byte} (hs : s.asmState = .seek) (hlen : body.length < 45)
    (hq : s.rxq = Config.preambleByte :: Config.preambleByte :: body) :
    ∃ t, processRun s = (t, .none) ∧ t.asmState = .body ∧ t.rxq = [] ∧ t.asmCnt = 2 + body.length ∧
      BeginsWith t.rxbuf (Config.preambleByte :: Config.preambleByte :: body) := by
  have hfuel : processFuel s = 2 * body.length + 2 + 3 := by
    simp only [processFuel, hq, List.length_cons]
    omega
  rw [processRun, hfuel, processLoop_preamble _ hs hq]
  exact processLoop_collects body _ _ [Config.preambleByte, Config.preambleByte] rfl rfl rfl
    (preambleRead_beginsWith s body) (by simp; omega) (by omega)

/-- A PROCESS that answers NONE changes nothing outside the assembler. -/
theorem processRun_none_frame {s t : State} (h : processRun s = (t, .none)) : SameOutsideAssembler s t := by
  rcases processRun_cases s with ⟨-, hsame⟩ | ⟨hacc, -⟩
  · rwa [h] at hsame
  · rw [h] at hacc; cases hacc

theorem exec_process_of_run {s t : State} {e : FrameEvt} (h : processRun s = (t, e)) :
    exec .process s = .next (respond (processResponse e t) t) := by
  rw [exec, execProcess, h]

end Sys2Proof.Machine

open Sys2Proof.Machine

/-- Settles O27: three transitions read the preamble and one reads each body byte, none of which completes the
candidate. -/
theorem partialFrameIsHeldInOrder : Obligations.PartialFrameIsHeldInOrder := by
  intro s body hs hlen hq
  obtain ⟨t, hrun, hbody, hempty, hcnt, hheld⟩ := processRun_partial hs hlen hq
  have hsame := processRun_none_frame hrun
  refine ⟨_, exec_process_of_run hrun, hbody, hcnt, hempty, fun i hi hlt => hheld i hi ?_, hsame.ds, hsame.mm,
    hsame.statusValid, hsame.txlog, ?_⟩
  · rw [List.length_cons, List.length_cons]
    omega
  · rw [respond_rsplog, hsame.rsplog]
    rfl

end

section
/-! What leaves the block (spec/30_encoding.md R47 to R53): the frames it can hand over, each of them well-formed, and
that a step hands over at most one. -/

namespace Sys2Proof.Machine

open Sys2Proof.Config

/-! ## The trailer of a frame -/

/-- Byte 2 of a frame long enough to have one gives the offset (R41). -/
theorem checksumOffset_toList {n : Nat} (v : Vector Byte n) (h : 2 < n) :
    checksumOffset v.toList = v[2].toNat + 2 := by
  simp [checksumOffset, h]

theorem checkRange_of_le_two (f : List Byte) {off : Nat} (h : off ≤ 2) : checkRange f off = [] := by
  simp [checkRange, h]

theorem trailerValid_iff (f : List Byte) :
    trailerValid f = true ↔
      f[checksumOffset f]? = checksum8 f (checksumOffset f) ∧
      f[checksumOffset f + 1]? = some (crcHigh (crc16 crcSeed (checkRange f (checksumOffset f)))) ∧
      f[checksumOffset f + 2]? = some (crcLow (crc16 crcSeed (checkRange f (checksumOffset f)))) := by
  simp [trailerValid, and_assoc]

/-! ## Finalize (R78) -/

/-- Finalize leaves the bytes before the trailer. -/
theorem take_finalize (f : List Byte) : (finalize f).take (checksumOffset f) = f.take (checksumOffset f) := by
  simp [finalize, List.take_set_of_le]

theorem finalize_getElem?_of_lt {f : List Byte} {i : Nat} (h : i < checksumOffset f) : (finalize f)[i]? = f[i]? := by
  rw [← List.getElem?_take_of_lt h, take_finalize, List.getElem?_take_of_lt h]

theorem checkRange_finalize (f : List Byte) :
    checkRange (finalize f) (checksumOffset f) = checkRange f (checksumOffset f) := by
  rw [checkRange, take_finalize, checkRange]

theorem checksum8_finalize (f : List Byte) :
    checksum8 (finalize f) (checksumOffset f) = checksum8 f (checksumOffset f) := by
  rw [checksum8, checkRange_finalize, finalize_length, checksum8]

section Inside

variable {f : List Byte} (h : checksumOffset f + 2 < f.length)
include h

theorem finalize_checksum : (finalize f)[checksumOffset f]? = checksum8 f (checksumOffset f) := by
  have h0 : checksumOffset f < f.length := by omega
  simp [finalize, checksum8_of_le h0.le, h0]

theorem finalize_crcHigh :
    (finalize f)[checksumOffset f + 1]? = some (crcHigh (crc16 crcSeed (checkRange f (checksumOffset f)))) := by
  have h1 : checksumOffset f + 1 < f.length := by omega
  simp [finalize, h1]

theorem finalize_crcLow :
    (finalize f)[checksumOffset f + 2]? = some (crcLow (crc16 crcSeed (checkRange f (checksumOffset f)))) := by
  simp [finalize, h]

/-- A length byte of 0 is what Finalize writes over it: nothing is covered, so the checksum is 0 too. -/
theorem finalize_getElem?_two : (finalize f)[2]? = f[2]? := by
  rcases (checksumOffset_ge f).lt_or_eq with hlt | heq
  · exact finalize_getElem?_of_lt hlt
  · have hsum := finalize_checksum h
    have h2 : 2 < f.length := by omega
    have hzero : f[2] = 0 := BitVec.eq_of_toNat_eq (by simpa [checksumOffset, h2] using heq)
    rw [← heq, checksum8_of_le h2.le, checkRange_of_le_two f le_rfl] at hsum
    rw [hsum, List.getElem?_eq_getElem h2, hzero, List.foldl_nil]

/-- The trailer stays where it is. -/
theorem checksumOffset_finalize : checksumOffset (finalize f) = checksumOffset f := by
  simp only [checksumOffset, List.getD_eq_getElem?_getD, finalize_getElem?_two h]

theorem trailerValid_finalize : trailerValid (finalize f) = true := by
  rw [trailerValid_iff, checksumOffset_finalize h, checksum8_finalize, checkRange_finalize]
  exact ⟨finalize_checksum h, finalize_crcHigh h, finalize_crcLow h⟩

end Inside

/-! ## Pack (R112) -/

/-- A byte of the packed frame that is no field byte is the template's. -/
theorem pack_of_not_mem {par : Params} {i : Fin 25} (w : Working) (h : i ∉ controlIndices par.raw) :
    (pack par w)[i] = par.raw.ctrlTemplate[i] := by
  simp only [controlIndices, List.mem_cons, List.not_mem_nil, or_false, not_or, Fin.ext_iff] at h
  obtain ⟨hmf, hfl, hsp, hh, hv⟩ := h
  simp [pack, Ne.symm hmf, Ne.symm hfl, Ne.symm hsp, Ne.symm hh, Ne.symm hv]

/-! ## The outgoing frames (R47) -/

/-- A frame of one of the three transmitted sizes, with the preamble, a length byte that gives its size, and a valid
trailer. -/
structure WellFormedFrame (f : List Byte) : Prop where
  size : f.length = 13 ∨ f.length = 15 ∨ f.length = 25
  first : f[0]? = some 0xFF
  second : f[1]? = some 0xFF
  lengthByte : f.length = checksumOffset f + 3
  trailer : trailerValid f = true

/-- The frames the block hands over: the poll literal, the two InitFrames and the ControlFrames. -/
inductive OutgoingFrame (par : Params) : List Byte → Prop where
  | poll : OutgoingFrame par pollFrame
  | init1 : OutgoingFrame par par.raw.initFrame1.toList
  | init2 : OutgoingFrame par par.raw.initFrame2.toList
  | control (w : Working) : OutgoingFrame par (controlFrame par w)

theorem wellFormedFrame_pollFrame : WellFormedFrame pollFrame where
  size := .inr (.inl rfl)
  first := rfl
  second := rfl
  lengthByte := rfl
  trailer := by decide +kernel

/-- The constraints of R52 make an InitFrame well-formed. -/
theorem wellFormedFrame_of_initFrameOk {f : Vector Byte 13} (h : initFrameOk f = true) :
    WellFormedFrame f.toList := by
  obtain ⟨h0, h1, h2, hsum, hhigh, hlow⟩ := (initFrameOk_iff f).mp h
  have hco : checksumOffset f.toList = 10 := by rw [checksumOffset_toList f (by omega), h2]; rfl
  refine ⟨.inl (by simp), by simp [h0], by simp [h1], by simp [hco], ?_⟩
  rw [trailerValid_iff, hco, hsum]
  refine ⟨by simp, ?_, ?_⟩
  · simpa [crcHigh, crcSeed, checkRange] using hhigh
  · simpa [crcLow, crcSeed, checkRange] using hlow

/-- The template's header (R51): the preamble and the length byte of a ControlFrame. -/
theorem ctrlTemplate_header (par : Params) :
    par.raw.ctrlTemplate[0] = 0xFF ∧ par.raw.ctrlTemplate[1] = 0xFF ∧ par.raw.ctrlTemplate[2] = 0x14 := by
  obtain ⟨-, -, -, -, -, -, h0, h1, h2, -, -⟩ := (rawParams_wf_iff par.raw).mp par.ok
  exact ⟨h0, h1, h2⟩

theorem initFrames_ok (par : Params) :
    initFrameOk par.raw.initFrame1 = true ∧ initFrameOk par.raw.initFrame2 = true := by
  obtain ⟨-, -, -, -, -, -, -, -, -, hinit, -⟩ := (rawParams_wf_iff par.raw).mp par.ok
  exact ⟨(initFrameOk_iff _).mpr (hinit _ (by simp)), (initFrameOk_iff _).mpr (hinit _ (by simp))⟩

/-- No field byte lies in the header (R8), so packing keeps the template's. -/
theorem pack_header (par : Params) (w : Working) (i : Fin 25) (hi : i.val < 3) :
    (pack par w)[i] = par.raw.ctrlTemplate[i] := by
  obtain ⟨-, -, hrange, -⟩ := (rawParams_wf_iff par.raw).mp par.ok
  exact pack_of_not_mem w fun hmem => by have := hrange i hmem; omega

theorem checksumOffset_pack (par : Params) (w : Working) : checksumOffset (pack par w).toList = 22 := by
  obtain ⟨-, -, h2⟩ := ctrlTemplate_header par
  have hbyte : (pack par w)[2] = 0x14 := (pack_header par w 2 (by decide)).trans h2
  rw [checksumOffset_toList _ (by omega), hbyte]
  rfl

theorem wellFormedFrame_controlFrame (par : Params) (w : Working) : WellFormedFrame (controlFrame par w) := by
  obtain ⟨h0, h1, -⟩ := ctrlTemplate_header par
  have hco := checksumOffset_pack par w
  have hinside : checksumOffset (pack par w).toList + 2 < (pack par w).toList.length := by simp [hco]
  have hp0 : (pack par w)[0] = 0xFF := (pack_header par w 0 (by decide)).trans h0
  have hp1 : (pack par w)[1] = 0xFF := (pack_header par w 1 (by decide)).trans h1
  constructor
  case size => right; right; simp [controlFrame]
  case first => rw [controlFrame, finalize_getElem?_of_lt (by omega)]; simp [hp0]
  case second => rw [controlFrame, finalize_getElem?_of_lt (by omega)]; simp [hp1]
  case lengthByte => rw [controlFrame, checksumOffset_finalize hinside, hco]; simp
  case trailer => exact trailerValid_finalize hinside

theorem OutgoingFrame.wellFormed {par : Params} {f : List Byte} (h : OutgoingFrame par f) : WellFormedFrame f := by
  cases h with
  | poll => exact wellFormedFrame_pollFrame
  | init1 => exact wellFormedFrame_of_initFrameOk (initFrames_ok par).1
  | init2 => exact wellFormedFrame_of_initFrameOk (initFrames_ok par).2
  | control w => exact wellFormedFrame_controlFrame par w

/-! ## What a step hands over -/

/-- TXLOG is as it was, or one outgoing frame longer. -/
def TransmitsAtMostOne (s t : State) : Prop :=
  t.txlog = s.txlog ∨ ∃ f, OutgoingFrame s.par f ∧ t.txlog = s.txlog ++ [f]

theorem processRun_txlog (s : State) : (processRun s).1.txlog = s.txlog := by
  rcases processRun_cases s with ⟨-, hsame⟩ | ⟨-, u, hsame, -, ht⟩
  · exact hsame.txlog
  · rw [ht]; exact hsame.txlog

theorem exec_transmitsAtMostOne {i : Instr} {s t : State} (h : exec i s = .next t) : TransmitsAtMostOne s t := by
  cases i with
  | process => cases h; exact .inl (processRun_txlog s)
  | sendPoll => cases h; exact .inr ⟨_, .poll, rfl⟩
  | sendInit1 => cases h; exact .inr ⟨_, .init1, rfl⟩
  | sendInit2 => cases h; exact .inr ⟨_, .init2, rfl⟩
  | readState => cases h; exact .inl rfl
  | reqChange mp mode fp fan sp swing tp temp =>
    rcases execReqChange_cases mp mode fp fan sp swing tp temp s with ⟨-, hex⟩ | ⟨-, -, hex⟩ | ⟨-, -, hex⟩
    · cases h.symm.trans hex; exact .inl rfl
    · cases h.symm.trans hex; exact .inl rfl
    · cases h.symm.trans hex; exact .inr ⟨_, .control _, rfl⟩

theorem step_transmitsAtMostOne {s t : State} (h : step s = .next t) : TransmitsAtMostOne s t := by
  rcases step_cases h with ⟨-, rfl⟩ | ⟨b, rest, -, rfl⟩ | ⟨rest, -, rfl⟩ | ⟨w, rest, i, -, -, hex⟩ |
    ⟨w, rest, e, -, -, rfl⟩
  · exact .inl rfl
  · exact .inl rfl
  · exact .inl rfl
  · exact exec_transmitsAtMostOne (s := { s with script := rest }) hex
  · exact .inl rfl

end Sys2Proof.Machine

open Sys2Proof.Machine

/-- Settles O55: a step hands over at most one outgoing frame, and each outgoing frame is well-formed. -/
theorem everyTransmittedFrameIsWellFormed : Obligations.EveryTransmittedFrameIsWellFormed := by
  intro s t h
  rcases step_transmitsAtMostOne h with hsame | ⟨f, hf, hlog⟩
  · exact .inl hsame
  · obtain ⟨hsize, hfirst, hsecond, hlength, htrailer⟩ := hf.wellFormed
    exact .inr ⟨f, hlog, hsize, hfirst, hsecond, hlength, htrailer⟩

end

section
/-! Every accepted word is the one encoding of its command, and the words of the opcode table are the encodings of the
commands (spec/30_encoding.md R59 to R66, R70, spec/opcode_table.json). -/

namespace Sys2Proof

/-! ## A word as the or of its fields in place -/

/-- The `n` bits of a word from bit `k`, at their place in the word, and zeros. -/
def fieldInPlace (w : Word) (k n : Nat) : Word := (w.extractLsb' k n).setWidth 32 <<< k

theorem getLsbD_fieldInPlace (w : Word) (k n i : Nat) :
    (fieldInPlace w k n).getLsbD i = (decide (k ≤ i ∧ i < k + n) && w.getLsbD i) := by
  by_cases hk : k ≤ i
  · have hback : k + (i - k) = i := by omega
    have hin : i - k < n ↔ i < k + n := by omega
    by_cases h32 : i < 32
    · simp [fieldInPlace, hk, h32, hback, hin]
    · simp [fieldInPlace, h32, BitVec.getLsbD_of_ge w i (by omega)]
  · simp [fieldInPlace, hk, Nat.lt_of_not_le hk]

/-- Two adjacent fields are one wider field. -/
theorem fieldInPlace_or (w : Word) (k m n : Nat) :
    fieldInPlace w k m ||| fieldInPlace w (k + m) n = fieldInPlace w k (m + n) := by
  apply BitVec.eq_of_getLsbD_eq
  intro i _
  simp only [BitVec.getLsbD_or, getLsbD_fieldInPlace, ← Bool.and_or_distrib_right, ← Bool.decide_or]
  congr 2
  apply propext
  omega

theorem fieldInPlace_zero_of_high {w : Word} {n m : Nat} (hn : n + m = 32) (h : w.extractLsb' n m = 0#m) :
    fieldInPlace w 0 n = w := by
  have hzero : fieldInPlace w n m = 0#32 := by simp [fieldInPlace, h]
  have hall : fieldInPlace w 0 32 = w := by simp [fieldInPlace]
  calc fieldInPlace w 0 n
    _ = fieldInPlace w 0 n ||| fieldInPlace w (0 + n) m := by simp [hzero]
    _ = w := by rw [fieldInPlace_or, hn, hall]

theorem ofBool_getLsbD (w : Word) (k : Nat) : BitVec.ofBool (w.getLsbD k) = w.extractLsb' k 1 := by
  apply BitVec.eq_of_getLsbD_eq
  intro i hi
  obtain rfl : i = 0 := by omega
  simp

theorem encode_of_decodeReqChange {w : Word} {i : Instr} (hop : (opcodeOf w).toNat = 5)
    (h : decodeReqChange w = .ok i) : encode i = w := by
  obtain ⟨rfl, hhigh⟩ := decodeReqChange_ok h
  have hlow : 0x5#32 = fieldInPlace w 0 4 := by
    have hop' : w.extractLsb' 0 4 = 5#4 := BitVec.eq_of_toNat_eq hop
    simp [fieldInPlace, hop']
  calc encode _
    _ = fieldInPlace w 0 4 ||| fieldInPlace w 4 1 ||| fieldInPlace w 5 3 ||| fieldInPlace w 8 1 |||
          fieldInPlace w 9 3 ||| fieldInPlace w 12 1 ||| fieldInPlace w 13 2 ||| fieldInPlace w 15 1 |||
          fieldInPlace w 16 8 := by
      rw [← hlow]
      simp only [encode, encodeReqChange, ofBool_getLsbD, ModeReq.code_ofCode, FanReq.code_ofCode,
        SwingReq.code_ofCode, fieldInPlace]
    _ = fieldInPlace w 0 24 := by simp only [fieldInPlace_or w 0]
    _ = w := fieldInPlace_zero_of_high rfl hhigh

theorem encode_of_decodeNoArg {w : Word} {i j : Instr} {k : Nat} (hop : (opcodeOf w).toNat = k)
    (hi : encode i = BitVec.ofNat 32 k) (h : decodeNoArg i w = .ok j) : encode j = w := by
  obtain ⟨rfl, hrest⟩ := decodeNoArg_ok h
  exact hi.trans (word_eq_of_opcode hop hrest).symm

/-- Encoding undoes decoding (R59, R60, R66). -/
theorem encode_of_decode {w : Word} {i : Instr} (h : decode w = .ok i) : encode i = w := by
  rcases decode_cases h with ⟨hop, hw⟩ | ⟨hop, hw⟩ | ⟨hop, hw⟩ | ⟨hop, hw⟩ | ⟨hop, hw⟩ | ⟨hop, hw⟩
  · exact encode_of_decodeNoArg hop rfl hw
  · exact encode_of_decodeNoArg hop rfl hw
  · exact encode_of_decodeNoArg hop rfl hw
  · exact encode_of_decodeNoArg hop rfl hw
  · exact encode_of_decodeReqChange hop hw
  · exact encode_of_decodeNoArg hop rfl hw

/-- The decoder accepts a word as a command exactly when the word is the command's encoding. -/
theorem decode_eq_ok_iff {w : Word} {i : Instr} : decode w = .ok i ↔ encode i = w :=
  ⟨encode_of_decode, fun h => h ▸ decode_encode i⟩

/-! ## The rows of the opcode table -/

theorem opcodeRow_mem_opcodeTable (i : Instr) : opcodeRow i ∈ opcodeTable := by
  cases i <;> simp [opcodeRow, opcodeTable]

theorem encode_mask_eq_pattern (i : Instr) : encode i &&& (opcodeRow i).mask = (opcodeRow i).pattern := by
  apply eq_of_beq
  cases i with
  | process => exact Laws.EncodingMatchesRow.process
  | sendPoll => exact Laws.EncodingMatchesRow.sendPoll
  | sendInit1 => exact Laws.EncodingMatchesRow.sendInit1
  | sendInit2 => exact Laws.EncodingMatchesRow.sendInit2
  | reqChange => exact Laws.EncodingMatchesRow.reqChange ..
  | readState => exact Laws.EncodingMatchesRow.readState

/-- A decoded word matches its command's own row. -/
theorem mask_eq_pattern_of_decode {w : Word} {i : Instr} (h : decode w = .ok i) :
    w &&& (opcodeRow i).mask = (opcodeRow i).pattern :=
  encode_of_decode h ▸ encode_mask_eq_pattern i

/-- A field that the mask covers is the pattern's. -/
theorem extractLsb'_of_mask {w m p : Word} {k n : Nat} (h : w &&& m = p) (hm : m.extractLsb' k n = BitVec.allOnes n) :
    w.extractLsb' k n = p.extractLsb' k n := by
  rw [← h, BitVec.extractLsb'_and, hm, BitVec.and_allOnes]

/-- The mask of REQ_CHANGE covers the opcode and the reserved bits, and the decoder tests no others. -/
theorem decode_of_reqChangeRow {w : Word} (h : w &&& 0xFF00000F#32 = 0x00000005#32) :
    ∃ i, decode w = .ok i ∧ opcodeRow i = ⟨"REQ_CHANGE", 0x00000005, 0xFF00000F⟩ := by
  have hop : opcodeOf w = 5#4 := extractLsb'_of_mask h rfl
  have hhigh : w.extractLsb' 24 8 = 0#8 := extractLsb'_of_mask h rfl
  simp [decode, decodeReqChange, hop, hhigh, opcodeRow]

/-- A word of a row decodes to a command of that row. -/
theorem decode_of_row {r : OpcodeRow} {w : Word} (hr : r ∈ opcodeTable) (h : w &&& r.mask = r.pattern) :
    ∃ i, decode w = .ok i ∧ opcodeRow i = r := by
  have hfull : ∀ {p : Word}, w &&& 0xFFFFFFFF#32 = p → w = p := fun hp => BitVec.and_allOnes.symm.trans hp
  simp only [opcodeTable, List.mem_cons, List.not_mem_nil, or_false] at hr
  rcases hr with rfl | rfl | rfl | rfl | rfl | rfl
  · exact ⟨.process, by rw [hfull h]; rfl, rfl⟩
  · exact ⟨.sendPoll, by rw [hfull h]; rfl, rfl⟩
  · exact ⟨.sendInit1, by rw [hfull h]; rfl, rfl⟩
  · exact ⟨.sendInit2, by rw [hfull h]; rfl, rfl⟩
  · exact decode_of_reqChangeRow h
  · exact ⟨.readState, by rw [hfull h]; rfl, rfl⟩

/-- A word lies in one row at most: the row of the command it decodes to. -/
theorem opcodeTable_disjoint {r r' : OpcodeRow} {w : Word} (hr : r ∈ opcodeTable) (hr' : r' ∈ opcodeTable)
    (h : w &&& r.mask = r.pattern) (h' : w &&& r'.mask = r'.pattern) : r = r' := by
  obtain ⟨i, hi, rfl⟩ := decode_of_row hr h
  obtain ⟨j, hj, rfl⟩ := decode_of_row hr' h'
  exact congrArg opcodeRow (Except.ok.inj (hi.symm.trans hj))

end Sys2Proof

open Sys2Proof

/-- Settles O9: the round trip of the encoding, operand by operand. -/
theorem decodeOfEncodeIsTheCommand : Obligations.DecodeOfEncodeIsTheCommand := fun i _ => decode_encode i

/-- Settles O10: a word is the or of its fields in place, and the decoder drops none but the zeros above them. -/
theorem encodeOfDecodeIsTheWord : Obligations.EncodeOfDecodeIsTheWord := fun _ _ => encode_of_decode

/-- Settles O11: a decoded word lies in its command's row, and a word of a row decodes to a command of that row. -/
theorem decoderAcceptsExactlyTheOpcodeTable : Obligations.DecoderAcceptsExactlyTheOpcodeTable := by
  refine ⟨fun w => ⟨?_, ?_⟩, fun _ _ => mask_eq_pattern_of_decode, fun _ hr _ hr' _ => opcodeTable_disjoint hr hr'⟩
  · rintro ⟨i, hi⟩
    exact ⟨opcodeRow i, opcodeRow_mem_opcodeTable i, mask_eq_pattern_of_decode hi⟩
  · rintro ⟨r, hr, h⟩
    obtain ⟨i, hi, -⟩ := decode_of_row hr h
    exact ⟨i, hi⟩

/-- Settles O12: the nine words are the encodings of these commands. -/
theorem specWordsDecodeToTheirCommands : Obligations.SpecWordsDecodeToTheirCommands := by
  simp only [Obligations.SpecWordsDecodeToTheirCommands, decode_eq_ok_iff]
  decide

end

section
/-! The one response of a command word, and the operands of REQ_CHANGE that do not count (spec/30_encoding.md R61, R62,
R67, spec/43_command_encoder.md R106). -/

namespace Sys2Proof.Machine

/-! ## One response per command word -/

/-- The move from `s` to `t` answers a word that decodes as `c` with the one response `r`, whose `sent`, `evt` and
`valid` say what happened (R67), and leaves the parameters alone. -/
structure AnsweredBy (c : Except DecodeReject Instr) (s t : State) (r : Response) : Prop where
  par : t.par = s.par
  rsplog : t.rsplog = s.rsplog ++ [r]
  txlog_sent : r.sent = true → ∃ f, t.txlog = s.txlog ++ [f]
  txlog_not_sent : r.sent = false → t.txlog = s.txlog
  evt : r.evt.isSome = true ↔ c = .ok .process
  valid : r.valid.isSome = true ↔ c = .ok .readState

section Plain

variable {c : Except DecodeReject Instr} (hp : c ≠ .ok .process) (hr : c ≠ .ok .readState) (s : State)
include hp hr

theorem answeredBy_plain (e : Status) :
    AnsweredBy c s (respond (Response.plain e false) s) (Response.plain e false) :=
  ⟨rfl, rfl, nofun, fun _ => rfl, by simp [Response.plain, hp], by simp [Response.plain, hr]⟩

theorem answeredBy_sendFixed (f : List Byte) : AnsweredBy c s (sendFixed f s) (Response.plain .ok true) :=
  ⟨rfl, rfl, fun _ => ⟨f, rfl⟩, nofun, by simp [Response.plain, hp], by simp [Response.plain, hr]⟩

end Plain

theorem answeredBy_readState (s : State) :
    AnsweredBy (.ok .readState) s (respond (readStateResponse s) s) (readStateResponse s) :=
  ⟨rfl, rfl, nofun, fun _ => rfl, by simp [readStateResponse, Response.plain], by simp [readStateResponse]⟩

/-- The loop of PROCESS gives no response and writes no parameter. -/
theorem processRun_rsplog_par (s : State) :
    (processRun s).1.rsplog = s.rsplog ∧ (processRun s).1.par = s.par := by
  rcases processRun_cases s with ⟨-, hsame⟩ | ⟨-, u, hsame, -, ht⟩
  · exact ⟨hsame.rsplog, hsame.par⟩
  · rw [ht]; exact ⟨hsame.rsplog, hsame.par⟩

theorem answeredBy_process (s : State) :
    AnsweredBy (.ok .process) s (respond (processResponse (processRun s).2 (processRun s).1) (processRun s).1)
      (processResponse (processRun s).2 (processRun s).1) where
  par := (processRun_rsplog_par s).2
  rsplog := by rw [respond_rsplog, (processRun_rsplog_par s).1]
  txlog_sent := nofun
  txlog_not_sent _ := processRun_txlog s
  evt := by simp [processResponse]
  valid := by simp [processResponse, Response.plain]

/-- Every command gives one response (R67). -/
theorem exec_answeredBy {i : Instr} {s t : State} (h : exec i s = .next t) : ∃ r, AnsweredBy (.ok i) s t r := by
  cases i with
  | process => cases h; exact ⟨_, answeredBy_process s⟩
  | sendPoll => cases h; exact ⟨_, answeredBy_sendFixed (by nofun) (by nofun) s _⟩
  | sendInit1 => cases h; exact ⟨_, answeredBy_sendFixed (by nofun) (by nofun) s _⟩
  | sendInit2 => cases h; exact ⟨_, answeredBy_sendFixed (by nofun) (by nofun) s _⟩
  | readState => cases h; exact ⟨_, answeredBy_readState s⟩
  | reqChange mp mode fp fan sp swing tp temp =>
    rcases execReqChange_cases mp mode fp fan sp swing tp temp s with ⟨-, hex⟩ | ⟨-, -, hex⟩ | ⟨-, -, hex⟩
    · cases h.symm.trans hex; exact ⟨_, answeredBy_plain (by nofun) (by nofun) s .rejected⟩
    · cases h.symm.trans hex; exact ⟨_, answeredBy_plain (by nofun) (by nofun) s .ok⟩
    · cases h.symm.trans hex; exact ⟨_, answeredBy_sendFixed (by nofun) (by nofun) s _⟩

/-- Every command word gets one response, a legal one its command's, an illegal one ILLEGAL_CMD (R67, R123). -/
theorem step_command_answeredBy {s t : State} {w : Word} {rest : List Event} (hs : s.script = .command w :: rest)
    (h : step s = .next t) : ∃ r, AnsweredBy (decode w) { s with script := rest } t r := by
  cases hw : decode w with
  | ok i => exact exec_answeredBy ((step_command_ok hs hw).symm.trans h)
  | error e =>
    cases h.symm.trans (step_command_error hs hw)
    exact ⟨_, answeredBy_plain (by nofun) (by nofun) _ .illegalCmd⟩

/-- A move that is no command word gives no response, hands over no frame and writes no parameter. -/
theorem step_not_command {s t : State} (hs : ∀ w rest, s.script ≠ .command w :: rest) (h : step s = .next t) :
    t.par = s.par ∧ t.rsplog = s.rsplog ∧ t.txlog = s.txlog := by
  rcases step_cases h with ⟨-, rfl⟩ | ⟨b, rest, -, rfl⟩ | ⟨rest, -, rfl⟩ | ⟨w, rest, i, hc, -, -⟩ |
    ⟨w, rest, e, hc, -, -⟩
  · exact ⟨rfl, rfl, rfl⟩
  · exact ⟨rfl, rfl, rfl⟩
  · exact ⟨rfl, rfl, rfl⟩
  · exact absurd hc (hs w rest)
  · exact absurd hc (hs w rest)

/-! ## Operands of REQ_CHANGE that do not count -/

section Operands

variable (mp : Bool) (mode mode' : ModeReq) (fp : Bool) (fan fan' : FanReq) (sp : Bool) (swing swing' : SwingReq)
  (tp : Bool) (temp temp' : Byte)

/-- A category whose presence bit is 0 leaves the working values alone, whatever its value field holds (R61): where a
bit is 1 both sides hold the same value, and where it is 0 neither side reads one. -/
theorem applyChanges_absent (par : Params) (mm : ModeMemory) (dsPower : Bool) (w : Working) :
    applyChanges par mm dsPower mp (if mp then mode else mode') fp (if fp then fan else fan') sp
        (if sp then swing else swing') tp (if tp then temp else temp') w =
      applyChanges par mm dsPower mp mode fp fan sp swing tp temp w := by
  cases mp <;> cases fp <;> cases sp <;> cases tp <;> rfl

variable {mode mode' fan fan' swing swing' temp temp'}

/-- REQ_CHANGE reads its value fields through the changes they make only. -/
theorem execReqChange_congr {s : State}
    (h : ∀ w, applyChanges s.par s.mm (dsValue s).power mp mode fp fan sp swing tp temp w =
      applyChanges s.par s.mm (dsValue s).power mp mode' fp fan' sp swing' tp temp' w) :
    execReqChange mp mode fp fan sp swing tp temp s = execReqChange mp mode' fp fan' sp swing' tp temp' s := by
  simp only [execReqChange, h]

end Operands

end Sys2Proof.Machine

open Sys2Proof Sys2Proof.Machine

/-- Settles O56: the one response of a command word, and the moves that give none. -/
theorem everyCommandIsAnsweredOnce : Obligations.EveryCommandIsAnsweredOnce := by
  intro s t h
  by_cases hc : ∃ w rest, s.script = .command w :: rest
  · obtain ⟨w, rest, hs⟩ := hc
    obtain ⟨r, ha⟩ := step_command_answeredBy hs h
    have hword : ∀ i, s.script.head? = some (.command (encode i)) ↔ decode w = .ok i := fun i => by
      simp [hs, decode_eq_ok_iff, eq_comm (a := w)]
    exact ⟨ha.par, fun _ => ⟨r, ha.rsplog, ha.txlog_sent, ha.txlog_not_sent, ha.evt.trans (hword .process).symm,
      ha.valid.trans (hword .readState).symm⟩, fun hn => absurd hs (hn w rest)⟩
  · obtain ⟨hpar, hsame⟩ := step_not_command (fun w rest hs => hc ⟨w, rest, hs⟩) h
    exact ⟨hpar, fun hcmd => absurd hcmd hc, fun _ => hsame⟩

/-- Settles O46: the changes are the same, and AUTO takes the climate path of HEAT_COOL (C1). -/
theorem absentOperandsIgnoredAndAutoIsHeatCool : Obligations.AbsentOperandsIgnoredAndAutoIsHeatCool :=
  fun _ mp mode mode' fp fan fan' sp swing swing' tp temp temp' =>
    ⟨execReqChange_congr mp fp sp tp fun w => (applyChanges_absent mp mode mode' fp fan fan' sp swing swing' tp temp
      temp' _ _ _ w).symm, execReqChange_congr mp fp sp tp fun _ => rfl⟩

end

section
/-! The checksum as a sum of bytes, what a change of one byte does to it, and the CRC byte by byte
(spec/40_checksum.md R73 to R79). -/

namespace Sys2Proof.Machine

/-! ## The bytes covered -/

/-- Writing a byte of the range writes it into the range. -/
theorem checkRange_set (f : List Byte) (off : Nat) {i : Nat} (v : Byte) (h : 2 ≤ i) :
    checkRange (f.set i v) off = (checkRange f off).set (i - 2) v := by
  simp [checkRange, List.take_set, List.drop_set, Nat.not_lt.mpr h]

theorem checkRange_set_of_le (f : List Byte) {off i : Nat} (v : Byte) (h : off ≤ i) :
    checkRange (f.set i v) off = checkRange f off := by
  simp [checkRange, List.take_set_of_le h]

theorem checkRange_length {f : List Byte} {off : Nat} (h : off ≤ f.length) : (checkRange f off).length = off - 2 := by
  simp [checkRange, h]

/-- The byte of the range at distance `i - 2` from its start is byte `i` of the frame. -/
theorem checkRange_getElem {f : List Byte} {off i : Nat} (h2 : 2 ≤ i) (hi : i - 2 < (checkRange f off).length) :
    (checkRange f off)[i - 2] = f.getD i 0 := by
  have hlt : i < f.length := by simp only [checkRange, List.length_drop, List.length_take] at hi; omega
  simp [checkRange, Nat.add_sub_cancel' h2, hlt]

/-- The range written by the indices `2 .. off - 1` it covers. -/
theorem checkRange_eq_map {f : List Byte} {off : Nat} (h : off ≤ f.length) :
    checkRange f off = (List.range' 2 (off - 2)).map fun i => f.getD i 0 := by
  refine List.ext_getElem (by simp [checkRange_length h]) fun n hn _ => ?_
  simpa [Nat.add_comm] using checkRange_getElem (i := n + 2) (by omega) hn

/-! ## The sum (R73) -/

theorem checksum8_eq_sum {f : List Byte} {off : Nat} (h : off ≤ f.length) :
    checksum8 f off = some (checkRange f off).sum := by
  rw [checksum8_of_le h, List.sum_eq_foldl]

/-- A sum of bytes is their sum as naturals modulo 256. -/
theorem toNat_sum_bytes (l : List Byte) : l.sum.toNat = (l.map BitVec.toNat).sum % 256 := by
  induction l with
  | nil => rfl
  | cons b l ih => rw [List.sum_cons, BitVec.toNat_add, ih, List.map_cons, List.sum_cons, Nat.add_mod_mod]

theorem checksum8_of_le_two {f : List Byte} {off : Nat} (h2 : off ≤ 2) (h : off ≤ f.length) :
    checksum8 f off = some 0 := by
  rw [checksum8_eq_sum h, checkRange_of_le_two f h2, List.sum_nil]

/-- Bytes at and after the offset do not count. -/
theorem checksum8_set_of_le (f : List Byte) {off i : Nat} (v : Byte) (h : off ≤ i) :
    checksum8 (f.set i v) off = checksum8 f off := by
  simp only [checksum8, checkRange_set_of_le f v h, List.length_set]

/-- One byte of the range changed changes the sum, since the other bytes add the same (R79 (a)). -/
theorem checksum8_set_ne {f : List Byte} {off i : Nat} {v : Byte} (h2 : 2 ≤ i) (hi : i < off) (hoff : off ≤ f.length)
    (hv : v ≠ f.getD i 0) : checksum8 (f.set i v) off ≠ checksum8 f off := by
  have hin : i - 2 < (checkRange f off).length := by rw [checkRange_length hoff]; omega
  rw [checksum8_eq_sum (by rwa [List.length_set]), checksum8_eq_sum hoff, checkRange_set f off v h2, List.sum_set',
    dif_pos hin, checkRange_getElem h2 hin, Ne, Option.some_inj, add_eq_left, neg_add_eq_zero]
  exact hv.symm

/-- The bytes exchanged are a permutation of those before, so they have the same sum (R79 (c)). -/
theorem checksum8_exchange {f : List Byte} {off i j : Nat} (hi2 : 2 ≤ i) (hi : i < off) (hj2 : 2 ≤ j) (hj : j < off)
    (hoff : off ≤ f.length) :
    checksum8 ((f.set i (f.getD j 0)).set j (f.getD i 0)) off = checksum8 f off := by
  have hlen := checkRange_length hoff
  have hin : i - 2 < (checkRange f off).length := by omega
  have hjn : j - 2 < (checkRange f off).length := by omega
  have hperm := List.set_set_perm hin hjn
  rw [checkRange_getElem hi2 hin, checkRange_getElem hj2 hjn] at hperm
  rw [checksum8_eq_sum (by simpa using hoff), checksum8_eq_sum hoff, checkRange_set _ off _ hj2,
    checkRange_set _ off _ hi2, hperm.sum_eq]

/-- A flipped bit makes another byte. -/
theorem flipBit_ne (b : Byte) {k : Nat} (hk : k < 8) : b ^^^ (1#8 <<< k) ≠ b := fun h => by
  have hbit := congrArg (·.getLsbD k) h
  simp [hk] at hbit

/-! ## The receive check (R76, R77) -/

/-- The check reads the byte at the offset, and there is one only up to offset 46. -/
theorem checksumOK_iff_getElem? (buf : Vector Byte 47) :
    checksumOK buf = true ↔
      checksumOffset buf.toList ≤ 46 ∧
        checksum8 buf.toList (checksumOffset buf.toList) = buf.toList[checksumOffset buf.toList]? := by
  have hbyte (h : checksumOffset buf.toList < 47) :
      buf.toList[checksumOffset buf.toList]? = some buf[checksumOffset buf.toList] := by simp [h]
  rw [checksumOK_iff]
  exact ⟨fun ⟨h, hsum⟩ => ⟨Nat.le_of_lt_succ h, hsum.trans (hbyte h).symm⟩,
    fun ⟨h, hsum⟩ => ⟨Nat.lt_succ_of_le h, hsum.trans (hbyte _)⟩⟩

theorem checksumOffset_set (f : List Byte) {i : Nat} (v : Byte) (h : i ≠ 2) :
    checksumOffset (f.set i v) = checksumOffset f := by
  simp [checksumOffset, List.getElem?_set_ne h]

/-- A byte that is neither the length byte nor the checksum counts through the sum only. -/
theorem checksumOK_set_iff {buf : Vector Byte 47} {i : Nat} (v : Byte) (h : i < 47) (h2 : i ≠ 2)
    (hco : i ≠ checksumOffset buf.toList) :
    checksumOK (buf.set i v) = true ↔
      checksumOffset buf.toList ≤ 46 ∧
        checksum8 (buf.toList.set i v) (checksumOffset buf.toList) = buf.toList[checksumOffset buf.toList]? := by
  rw [checksumOK_iff_getElem?, Vector.toList_set, checksumOffset_set _ v h2, List.getElem?_set_ne hco]

/-! ## Finalize (R78) -/

theorem finalize_getElem?_of_ne (f : List Byte) {i : Nat} (h0 : i ≠ checksumOffset f) (h1 : i ≠ checksumOffset f + 1)
    (h2 : i ≠ checksumOffset f + 2) : (finalize f)[i]? = f[i]? := by
  simp only [finalize, List.getElem?_set_ne h0.symm, List.getElem?_set_ne h1.symm, List.getElem?_set_ne h2.symm]

/-! ## The CRC (R75) -/

theorem crcSteps_eq_iterate (n : Nat) (c : Crc) : crcSteps n c = crcStep^[n] c := by
  induction n generalizing c with
  | zero => rfl
  | succ n ih => exact ih (crcStep c)

theorem crc16_append (c : Crc) (a b : List Byte) : crc16 c (a ++ b) = crc16 (crc16 c a) b := List.foldl_append

end Sys2Proof.Machine

open Sys2Proof Sys2Proof.Machine

/-- Settles O1: the fold is a sum of bytes, over the range written by its indices. -/
theorem checksum8IsSumModulo256 : Obligations.Checksum8IsSumModulo256 := by
  refine fun f off => ⟨checksum8_of_lt, fun h => ⟨_, checksum8_eq_sum h, ?_⟩⟩
  rw [toNat_sum_bytes, checkRange_eq_map h, List.map_map]
  rfl

/-- Settles O5: the sum changes, and the offset and the byte it is compared with stay. -/
theorem checksumCatchesEverySingleBitFlip : Obligations.ChecksumCatchesEverySingleBitFlip := by
  refine ⟨fun f i k h3 hi hoff hk => checksum8_set_ne (by omega) hi hoff (flipBit_ne _ hk), ?_⟩
  intro buf i k h h3 hi hk hok
  obtain ⟨hco, hsum⟩ := (checksumOK_iff_getElem? buf).mp hok
  have hne : checksum8 (buf.toList.set i (buf[i] ^^^ (1#8 <<< k))) (checksumOffset buf.toList) ≠
      checksum8 buf.toList (checksumOffset buf.toList) :=
    checksum8_set_ne (by omega) hi (by rw [Vector.length_toList]; omega) (by simpa [h] using flipBit_ne buf[i] hk)
  rw [Bool.eq_false_iff, Ne, checksumOK_set_iff _ h (by omega) hi.ne, ← hsum]
  exact fun hset => hne hset.2

/-- Settles O6: the range after the exchange is a permutation of the range before. -/
theorem checksumIgnoresByteExchange : Obligations.ChecksumIgnoresByteExchange :=
  fun _ _ _ _ hi2 hi hj2 hj hoff => checksum8_exchange hi2 hi hj2 hj hoff

/-- Settles O7: a byte after the checksum leaves the sum as it was, and the sum over no bytes is the zero length
byte itself. -/
theorem receiveCheckComparesTheSumOnly : Obligations.ReceiveCheckComparesTheSumOnly := by
  refine ⟨fun buf => ?iff, fun buf i v h hi => ?after, fun buf hzero => ?empty⟩
  case iff => rw [checksumOK_iff_getElem?, checksumOffset_toList buf (by omega)]
  case after =>
    rw [← checksumOffset_toList buf (by omega)] at hi
    rw [Bool.eq_iff_iff, checksumOK_set_iff v h (by have := checksumOffset_ge buf.toList; omega) hi.ne',
      checksum8_set_of_le _ v hi.le, checksumOK_iff_getElem?]
  case empty =>
    have hco : checksumOffset buf.toList = 2 := by rw [checksumOffset_toList buf (by omega), hzero]; rfl
    rw [checksumOK_iff_getElem?, hco, checksum8_of_le_two le_rfl (by simp)]
    simp [hzero]

/-- Settles O8: the three writes are at distinct indices, and none changes what was summed or where the trailer is. -/
theorem finalizeWritesExactlyTheTrailer : Obligations.FinalizeWritesExactlyTheTrailer := fun f h =>
  ⟨finalize_length f, fun _ => finalize_getElem?_of_ne f, finalize_checksum h, finalize_crcHigh h, finalize_crcLow h,
    trailerValid_finalize h⟩

/-- Settles O2: the range up to an offset of 2 is empty, and the offset is byte 2 as a natural, plus 2. -/
theorem checksum8OfEmptyRangeIsZero : Obligations.Checksum8OfEmptyRangeIsZero := by
  refine ⟨fun f off h2 h => checksum8_of_le_two h2 h, fun f => ⟨checksumOffset_ge f, ?_⟩⟩
  rw [checksumOffset, Nat.add_eq_right]
  exact BitVec.toNat_inj (y := 0)

/-- Settles O3: one byte is eight iterations of the step, and the two check values are computed. -/
theorem crc16FollowsTheReflectedStep : Obligations.Crc16FollowsTheReflectedStep := by
  refine ⟨crc16_nil, fun c b bs => ?_, by decide +kernel, by decide +kernel⟩
  rw [crc16_cons, crcByte, crcSteps_eq_iterate]
  rfl

/-- Settles O4: the fold over a concatenation. -/
theorem crcOfConcatenationContinues : Obligations.CrcOfConcatenationContinues := crc16_append

end

section
/-! The assembler and PROCESS (spec/41_assembler.md): the transition table of R81, the evaluation of R84, and the loop
of R86 freed from its fuel: three equations and one induction principle for `processRun`, from which the statements
about whole frames, discarded bytes and chunked arrival follow. -/

namespace Sys2Proof.Machine

/-! ## The rows of R81 that store a byte -/

theorem asmStep_rd1_preamble {s : State} {q : List Byte} (hs : s.asmState = .rd1)
    (hq : s.rxq = Config.preambleByte :: q) :
    asmStep s =
      { s with rxq := q, rxbuf := s.rxbuf.set 0 Config.preambleByte, asmCnt := 1, asmState := .rd2 } := by
  rw [asmStep_rd1 hq hs, asmFirstByte_preamble, rxbufWrite_of_lt (by omega)]

theorem asmStep_rd2_preamble {s : State} {q : List Byte} (hs : s.asmState = .rd2)
    (hq : s.rxq = Config.preambleByte :: q) :
    asmStep s =
      { s with rxq := q, rxbuf := s.rxbuf.set 1 Config.preambleByte, asmCnt := 2, asmState := .body } := by
  rw [asmStep_rd2 hq hs, asmSecondByte_preamble, rxbufWrite_of_lt (by omega)]

theorem asmStep_body_of_lt {s : State} {b : Byte} {q : List Byte} (hs : s.asmState = .body) (hq : s.rxq = b :: q)
    (h : s.asmCnt < 47) :
    asmStep s =
      { s with
        rxq := q
        rxbuf := s.rxbuf.set s.asmCnt b
        asmCnt := s.asmCnt + 1
        asmState := if s.asmCnt + 1 = 47 then .ready else .body } := by
  rw [asmStep_body hq hs, asmBodyByte, rxbufWrite_of_lt h]

/-- Without a byte, and outside READY, a transition waits. -/
theorem asmStep_wait {s : State} (hq : s.rxq = []) : asmStep s = s := by
  rcases asmStep_cases s with ⟨h, -⟩ | ⟨-, hne, -⟩ | ⟨b, q, hcons, -⟩
  · exact h
  · exact absurd hq hne
  · rw [hq] at hcons; cases hcons

/-! ## The verdict of R84 -/

theorem frameVerdict_otherType {par : Params} {buf : Vector Byte 47} (h : buf[9] ≠ Config.statusType) :
    frameVerdict par buf = .badType := if_pos h

theorem frameVerdict_statusType {par : Params} {buf : Vector Byte 47} (h : buf[9] = Config.statusType) :
    frameVerdict par buf = validate par buf := if_neg (not_not.mpr h)

theorem frameReadyEval_accepted {s : State} (h : frameVerdict s.par s.rxbuf = .accepted) :
    frameReadyEval s = ({ acceptUpdate s with asmCnt := 0, asmState := .seek }, .accepted) := by
  rw [frameReadyEval, h]
  rfl

theorem frameReadyEval_rejected {s : State} (h : frameVerdict s.par s.rxbuf ≠ .accepted) :
    frameReadyEval s = ({ s with asmCnt := 0, asmState := .seek }, frameVerdict s.par s.rxbuf) := by
  rw [frameReadyEval, if_neg h]

@[simp] theorem frameReadyEval_rxq (s : State) : (frameReadyEval s).1.rxq = s.rxq := by
  rw [frameReadyEval]
  dsimp only
  split <;> rfl

/-! ## The loop without its fuel (R86, R88) -/

/-- `n` calls are enough for the loop from `s`: two per byte, one of them only in SEEK, and one to leave. -/
def EnoughFuel (n : Nat) (s : State) : Prop :=
  0 < n ∧ 2 * s.rxq.length ≤ n ∧ (s.asmState = .seek → 2 * s.rxq.length < n)

theorem enoughFuel_of_le {n : Nat} {s : State} (h : 2 * s.rxq.length + 1 ≤ n) : EnoughFuel n s :=
  ⟨by omega, by omega, fun _ => by omega⟩

theorem enoughFuel_processFuel (s : State) : EnoughFuel (processFuel s) s := enoughFuel_of_le le_rfl

theorem EnoughFuel.asmStep {n : Nat} {s : State} (h : EnoughFuel (n + 1) s) (hr : s.asmState ≠ .ready)
    (hq : s.rxq ≠ []) : EnoughFuel n (asmStep s) := by
  obtain ⟨b, q, hq⟩ := List.exists_cons_of_ne_nil hq
  obtain ⟨-, hle, hseek⟩ := h
  simp only [hq, List.length_cons] at hle hseek
  rcases asmStep_progress hr hq with ⟨hs, hstep⟩ | hstep
  · have := hseek hs
    rw [EnoughFuel, hstep]
    simp only [hq, List.length_cons, reduceCtorEq, false_implies, and_true]
    omega
  · rw [EnoughFuel, hstep]
    omega

/-- What the loop keeps doing until it leaves can be proved without its fuel. -/
theorem processRun_induction {P : State → Prop} (ready : ∀ s, s.asmState = .ready → P s)
    (wait : ∀ s, s.asmState ≠ .ready → s.rxq = [] → P s)
    (step : ∀ s, s.asmState ≠ .ready → s.rxq ≠ [] → P (asmStep s) → P s) (s : State) : P s := by
  suffices h : ∀ n s, EnoughFuel n s → P s from h _ s (enoughFuel_processFuel s)
  intro n
  induction n with
  | zero => exact fun s h => absurd h.1 (Nat.lt_irrefl 0)
  | succ n ih =>
    intro s h
    by_cases hr : s.asmState = .ready
    · exact ready s hr
    · by_cases hq : s.rxq = []
      · exact wait s hr hq
      · exact step s hr hq (ih _ (h.asmStep hr hq))

/-- Fuel beyond what is enough makes no difference. -/
theorem processLoop_eq_of_enoughFuel (n : Nat) :
    ∀ {m s}, EnoughFuel n s → EnoughFuel m s → processLoop n s = processLoop m s := by
  induction n with
  | zero => exact fun h _ => absurd h.1 (Nat.lt_irrefl 0)
  | succ n ih =>
    intro m s hn hm
    obtain ⟨m, rfl⟩ : ∃ k, m = k + 1 := Nat.exists_eq_succ_of_ne_zero hm.1.ne'
    by_cases hr : s.asmState = .ready
    · rw [processLoop_ready hr, processLoop_ready hr]
    · by_cases hq : s.rxq = []
      · rw [processLoop_wait hr hq, processLoop_wait hr hq]
      · rw [processLoop_step hr hq, processLoop_step hr hq]
        exact ih (hn.asmStep hr hq) (hm.asmStep hr hq)

theorem processLoop_eq_processRun {n : Nat} {s : State} (h : EnoughFuel n s) : processLoop n s = processRun s :=
  processLoop_eq_of_enoughFuel n h (enoughFuel_processFuel s)

theorem processRun_ready {s : State} (h : s.asmState = .ready) : processRun s = frameReadyEval s :=
  processLoop_ready h

theorem processRun_wait {s : State} (h : s.asmState ≠ .ready) (hq : s.rxq = []) : processRun s = (s, .none) :=
  processLoop_wait h hq

theorem processRun_step {s : State} (h : s.asmState ≠ .ready) (hq : s.rxq ≠ []) :
    processRun s = processRun (asmStep s) := by
  have hfuel : EnoughFuel (2 * s.rxq.length + 1) s := enoughFuel_processFuel s
  rw [← processLoop_eq_processRun hfuel, processLoop_step h hq, processLoop_eq_processRun (hfuel.asmStep h hq)]

/-- The two exits of the loop, told apart by the answer. -/
theorem processRun_exit (s : State) :
    ((processRun s).2 = .none → (processRun s).1.rxq = [] ∧ (processRun s).1.asmState ≠ .ready) ∧
    ((processRun s).2 ≠ .none → (processRun s).1.asmState = .seek ∧ (processRun s).1.asmCnt = 0) := by
  rcases genuineExit_processRun s with ⟨hnone, hexit⟩ | ⟨hsome, hexit⟩
  · exact ⟨fun _ => hexit, fun h => absurd hnone h⟩
  · exact ⟨fun h => absurd h hsome, fun _ => hexit⟩

/-! ## What PROCESS consumes and what it leaves (R86, R96, R97) -/

theorem asmStep_rxq_suffix (s : State) : (asmStep s).rxq <:+ s.rxq := by
  rcases asmStep_cases s with ⟨h, -⟩ | ⟨-, -, h⟩ | ⟨b, q, hq, ⟨-, h⟩ | ⟨-, h⟩ | ⟨-, h⟩⟩
  · rw [h]
  · rw [h]
  · rw [h, asmFirstByte_rxq, hq]; exact List.suffix_cons b q
  · rw [h, asmSecondByte_rxq, hq]; exact List.suffix_cons b q
  · rw [h, asmBodyByte_rxq, hq]; exact List.suffix_cons b q

/-- The loop reads at the head of RXQ only. -/
theorem processRun_rxq_suffix (s : State) : (processRun s).1.rxq <:+ s.rxq :=
  processLoop_keeps (P := fun t => t.rxq <:+ s.rxq) (fun t _ h => (asmStep_rxq_suffix t).trans h)
    (fun t _ h => by rwa [frameReadyEval_rxq]) _ s List.suffix_rfl

/-- Whatever the answer, the loop writes no port but RXQ, no response, no script and no parameter. -/
theorem processRun_ports (s : State) :
    (processRun s).1.rsplog = s.rsplog ∧ (processRun s).1.txlog = s.txlog ∧ (processRun s).1.script = s.script ∧
      (processRun s).1.par = s.par := by
  rcases processRun_cases s with ⟨-, hsame⟩ | ⟨-, u, hsame, -, ht⟩
  · exact ⟨hsame.rsplog, hsame.txlog, hsame.script, hsame.par⟩
  · rw [ht]
    exact ⟨hsame.rsplog, hsame.txlog, hsame.script, hsame.par⟩

theorem processRun_notAccepted {s : State} (h : (processRun s).2 ≠ .accepted) : SameDevice s (processRun s).1 := by
  rcases processRun_cases s with ⟨-, hsame⟩ | ⟨hacc, -⟩
  · exact ⟨hsame.ds, hsame.mm, hsame.statusValid⟩
  · exact absurd hacc h

/-- Acceptance replaces DS, MM and the latch from the frame that RXBUF still holds (R96). -/
theorem processRun_accepted {s : State} (h : (processRun s).2 = .accepted) :
    (processRun s).1.ds = some (statusDecode s.par (processRun s).1.rxbuf) ∧
      (processRun s).1.mm = mmUpdate (statusDecode s.par (processRun s).1.rxbuf) s.mm ∧
      (processRun s).1.statusValid = true := by
  rcases processRun_cases s with ⟨hrej, -⟩ | ⟨-, u, hsame, -, ht⟩
  · exact absurd h hrej
  · rw [ht, ← hsame.par, ← hsame.mm]
    exact ⟨rfl, rfl, rfl⟩

theorem processResponse_proj_accepted {s : State} {d : DeviceState} (h : s.ds = some d) :
    (processResponse .accepted s).proj = some (projection s.par d) := by
  rw [← dsValue_some h]
  rfl

theorem processResponse_proj_notAccepted {e : FrameEvt} (h : e ≠ .accepted) (s : State) :
    (processResponse e s).proj = none := if_neg h

/-- On acceptance PROCESS answers the projection of that same frame (R86). -/
theorem processRun_accepted_proj {s : State} (h : (processRun s).2 = .accepted) :
    (processResponse (processRun s).2 (processRun s).1).proj =
      some (projection s.par (statusDecode s.par (processRun s).1.rxbuf)) := by
  obtain ⟨hds, -, -⟩ := processRun_accepted h
  obtain ⟨-, -, -, hpar⟩ := processRun_ports s
  rw [h, processResponse_proj_accepted hds, hpar]

/-! ## Bytes that are discarded (R81, R82) -/

/-- From SEEK a byte that is not `FF` is read and leaves no trace. -/
theorem processRun_discards {s : State} {b : Byte} {q : List Byte} (hs : s.asmState = .seek) (hq : s.rxq = b :: q)
    (hb : b ≠ Config.preambleByte) : processRun s = processRun { s with rxq := q } := by
  have hsame : ({ s with rxq := q, asmState := .seek } : State) = { s with rxq := q } := by rw [← hs]
  rw [processRun_step (by simp [hs]) (by simp [hq]), asmStep_seek hs (by simp [hq]),
    processRun_step (by simp) (by simp [hq]), asmStep_rd1 (s := { s with asmState := .rd1 }) hq rfl,
    asmFirstByte_other hb, hsame]

theorem processRun_discards_noise (noise : List Byte) :
    ∀ {s : State} {rest : List Byte}, s.asmState = .seek → (∀ b ∈ noise, b ≠ Config.preambleByte) →
      s.rxq = noise ++ rest → processRun s = processRun { s with rxq := rest } := by
  induction noise with
  | nil =>
    rintro s rest - - hq
    obtain rfl : s.rxq = rest := hq
    rfl
  | cons b noise ih =>
    intro s rest hs hnoise hq
    obtain ⟨hb, hnoise⟩ := List.forall_mem_cons.mp hnoise
    rw [processRun_discards hs hq hb]
    exact ih hs hnoise rfl

/-! ## A whole frame (R81, R84) -/

/-- A buffer that begins with the 47 bytes of a frame is that frame. -/
theorem BeginsWith.eq_of_toList {buf f : Vector Byte 47} (h : BeginsWith buf f.toList) : buf = f := by
  refine Vector.ext fun i hi => Option.some.inj ?_
  rw [h i hi (by simpa using hi)]
  simp [hi]

/-- Collecting the body: with `held` stored and `q` next in RXQ, the two together a frame, the loop comes to evaluate
that frame. -/
theorem processRun_completes (f : Vector Byte 47) (rest : List Byte) (q : List Byte) :
    ∀ {s : State} {held : List Byte}, f.toList = held ++ q →
      s.asmState = (if held.length = 47 then .ready else .body) → s.asmCnt = held.length → s.rxq = q ++ rest →
      BeginsWith s.rxbuf held →
      processRun s = frameReadyEval { s with asmState := .ready, asmCnt := 47, rxbuf := f, rxq := rest } := by
  have hlen : f.toList.length = 47 := Vector.length_toList
  induction q with
  | nil =>
    intro s held hf hs hcnt hq hheld
    rw [List.append_nil] at hf
    subst hf
    rw [hlen] at hcnt
    rw [if_pos hlen] at hs
    obtain rfl : s.rxq = rest := hq
    rw [processRun_ready hs, ← hheld.eq_of_toList, ← hcnt, ← hs]
  | cons b q ih =>
    intro s held hf hs hcnt hq hheld
    have hlt : held.length < 47 := by rw [← hlen, hf, List.length_append, List.length_cons]; omega
    rw [if_neg hlt.ne] at hs
    rw [processRun_step (by simp [hs]) (by simp [hq]), asmStep_body hq hs]
    exact ih (held := held ++ [b]) (by simp [hf]) (by simp [asmBodyByte, hcnt, Config.statusSize])
      (by simp [asmBodyByte, hcnt]) rfl
      (by simpa [asmBodyByte, hcnt] using hheld.append b)

/-- Both preamble bytes are stored and the loop goes on in BODY. -/
theorem processRun_preamble {s : State} {rest : List Byte} (hs : s.asmState = .seek)
    (hq : s.rxq = Config.preambleByte :: Config.preambleByte :: rest) :
    processRun s = processRun (preambleRead s rest) := by
  have hfuel : processFuel s = 2 * rest.length + 2 + 3 := by
    simp only [processFuel, hq, List.length_cons]
    omega
  rw [processRun, hfuel, processLoop_preamble _ hs hq]
  exact processLoop_eq_processRun (enoughFuel_of_le (Nat.le_succ _))

theorem toList_of_preamble {f : Vector Byte 47} (h0 : f[0] = Config.preambleByte) (h1 : f[1] = Config.preambleByte) :
    f.toList = Config.preambleByte :: Config.preambleByte :: f.toList.drop 2 := by
  have h : f.toList = f[0] :: f[1] :: f.toList.drop 2 := by
    simpa using (List.drop_eq_getElem_cons (l := f.toList) (i := 0) (by simp)).trans
      (congrArg _ (List.drop_eq_getElem_cons (l := f.toList) (i := 1) (by simp)))
  rwa [h0, h1] at h

/-- From SEEK with a whole frame at the head of RXQ, the loop evaluates that frame. -/
theorem processRun_frame {s : State} {f : Vector Byte 47} {rest : List Byte} (hs : s.asmState = .seek)
    (h0 : f[0] = Config.preambleByte) (h1 : f[1] = Config.preambleByte) (hq : s.rxq = f.toList ++ rest) :
    processRun s = frameReadyEval { s with asmState := .ready, asmCnt := 47, rxbuf := f, rxq := rest } := by
  have hf := toList_of_preamble h0 h1
  rw [hf] at hq
  rw [processRun_preamble hs hq]
  exact processRun_completes f rest (f.toList.drop 2) (held := [Config.preambleByte, Config.preambleByte]) hf rfl rfl
    rfl (preambleRead_beginsWith s _)

/-! ## Bytes that arrive later (R89) -/

/-- The state with more bytes waiting behind those in RXQ. -/
def withLater (later : List Byte) (s : State) : State := { s with rxq := s.rxq ++ later }

/-- A transition that has a byte to read does not see the bytes behind it. -/
theorem asmStep_withLater (later : List Byte) {s : State} (hq : s.rxq ≠ []) :
    asmStep (withLater later s) = withLater later (asmStep s) := by
  obtain ⟨b, q, hcons⟩ := List.exists_cons_of_ne_nil hq
  have hlater : (withLater later s).rxq = b :: (q ++ later) := congrArg (· ++ later) hcons
  cases hs : s.asmState with
  | seek => rw [asmStep_seek hs hq, asmStep_seek (s := withLater later s) hs (by simp [hlater])]; rfl
  | rd1 =>
    rw [asmStep_rd1 hcons hs, asmStep_rd1 hlater hs, asmFirstByte, asmFirstByte]
    split <;> rfl
  | rd2 =>
    rw [asmStep_rd2 hcons hs, asmStep_rd2 hlater hs, asmSecondByte, asmSecondByte]
    split <;> rfl
  | body => rw [asmStep_body hcons hs, asmStep_body hlater hs]; rfl
  | ready => rw [asmStep, asmStep, hs, show (withLater later s).asmState = .ready from hs]

theorem frameReadyEval_withLater (later : List Byte) (s : State) :
    frameReadyEval (withLater later s) = (withLater later (frameReadyEval s).1, (frameReadyEval s).2) := by
  rcases frameReadyEval_cases s with ⟨hv, h⟩ | ⟨hv, h⟩ <;> rw [h]
  · exact frameReadyEval_accepted (s := withLater later s) hv
  · exact frameReadyEval_rejected (s := withLater later s) hv

/-- The loop over all the bytes is the loop over the first ones, then, if that answered NONE, the loop over the
rest. -/
theorem processRun_withLater (later : List Byte) (s : State) :
    processRun (withLater later s) =
      if (processRun s).2 = .none then processRun (withLater later (processRun s).1)
      else (withLater later (processRun s).1, (processRun s).2) := by
  induction s using processRun_induction with
  | ready s hr =>
    have hverdict : (frameReadyEval s).2 ≠ .none := frameVerdict_ne_none _ _
    rw [processRun_ready hr, if_neg hverdict, processRun_ready (s := withLater later s) hr,
      frameReadyEval_withLater]
  | wait s hr hq => rw [processRun_wait hr hq, if_pos rfl]
  | step s hr hq ih =>
    rw [processRun_step hr hq, ← ih, ← asmStep_withLater later hq]
    exact processRun_step hr (by simp [withLater, hq])

end Sys2Proof.Machine

open Sys2Proof Sys2Proof.Machine

/-- Settles O20, one lemma per row. -/
theorem assemblerTransitionTable : Obligations.AssemblerTransitionTable := by
  refine ⟨fun _ hq _ => asmStep_wait hq, fun _ hq hs => asmStep_seek hs hq, fun s b q hq => ⟨?_, ?_, ?_, ?_, ?_⟩⟩
  · rintro hs rfl
    exact asmStep_rd1_preamble hs hq
  · intro hs hb
    rw [asmStep_rd1 hq hs, asmFirstByte_other hb]
  · rintro hs rfl
    exact asmStep_rd2_preamble hs hq
  · intro hs hb
    rw [asmStep_rd2 hq hs, asmSecondByte_other hb]
  · exact fun hs h => asmStep_body_of_lt hs hq h

/-- Settles O21: the verdict by type, and the two forms of an evaluation. -/
theorem frameReadyEvalJudgesTypeThenValidates : Obligations.FrameReadyEvalJudgesTypeThenValidates := by
  refine fun s => ⟨fun htype => ?_, fun htype hv => ?_, fun htype hv => ?_⟩
  · have hbad : frameVerdict s.par s.rxbuf = .badType := frameVerdict_otherType htype
    rw [frameReadyEval_rejected (by simp [hbad]), hbad]
  · exact frameReadyEval_accepted ((frameVerdict_statusType htype).trans hv)
  · rw [← frameVerdict_statusType htype] at hv ⊢
    exact frameReadyEval_rejected hv

/-- Settles O22: the bounded loop meets the three equations of the unbounded one. -/
theorem processRunsThePseudocodeLoop : Obligations.ProcessRunsThePseudocodeLoop :=
  ⟨fun _ => processRun_ready, fun _ => processRun_wait, fun _ => processRun_step, fun _ => rfl⟩

/-- Settles O23: more fuel gives the same answer, and the loop leaves by a genuine exit. -/
theorem processEndsWithinTwoCallsPerByte : Obligations.ProcessEndsWithinTwoCallsPerByte := fun s _ hn =>
  ⟨processLoop_eq_processRun (enoughFuel_of_le hn), processRun_exit s⟩

/-- Settles O24: the loop's frame, its exits, and what acceptance and every other answer do to the device state. -/
theorem processOutcomeAndFrame : Obligations.ProcessOutcomeAndFrame := by
  intro s
  obtain ⟨hrsp, htx, hscript, hpar⟩ := processRun_ports s
  obtain ⟨used, hused⟩ := processRun_rxq_suffix s
  obtain ⟨hnone, hsome⟩ := processRun_exit s
  refine ⟨_, (processRun s).2, (processResponse (processRun s).2 (processRun s).1).proj, exec_process_of_run rfl,
    congrArg (· ++ [_]) hrsp, htx, hscript, hpar, ⟨used, hused.symm⟩, hnone, hsome, fun hrej => ?_, fun hacc => ?_⟩
  · obtain ⟨hds, hmm, hvalid⟩ := processRun_notAccepted hrej
    exact ⟨hds, hmm, hvalid, processResponse_proj_notAccepted hrej _⟩
  · obtain ⟨hds, hmm, hvalid⟩ := processRun_accepted hacc
    exact ⟨hds, hmm, hvalid, processRun_accepted_proj hacc⟩

/-- Settles O25: the noise is discarded, the preamble read, and the body collected by induction on its bytes. -/
theorem wholeFrameIsCollectedAndJudged : Obligations.WholeFrameIsCollectedAndJudged := by
  intro s noise f rest hs hnoise h0 h1 hq
  rw [processRun_discards_noise noise hs hnoise hq]
  exact processRun_frame hs h0 h1 rfl

/-- Settles O26: both readings come to SEEK with the byte gone. -/
theorem rescanningARejectedByteChangesNothing : Obligations.RescanningARejectedByteChangesNothing := by
  intro s b q hs hq hb
  rw [processRun_step (by simp [hs]) (by simp [hq]), asmStep_rd2 hq hs, asmSecondByte_other hb]
  exact (processRun_discards (s := { s with asmState := .seek, asmCnt := 0 }) rfl hq hb).symm

/-- Settles O28: both cases are read off the loop over all the bytes. -/
theorem chunkedArrivalDoesNotMatter : Obligations.ChunkedArrivalDoesNotMatter := by
  refine fun s later => ⟨fun hnone => ?_, fun hsome => ?_⟩
  · exact ((processRun_withLater later s).trans (if_pos hnone)).symm
  · exact (processRun_withLater later s).trans (if_neg hsome)

end

section
/-! The status decoder (spec/42_status_decoder.md): the first failing check of R93, the temperature bounds of R94 in
degrees, the fields of R95 as arithmetic on their bytes, the tables of R98 and R100 to R102, and the PROCESS that finds
a whole frame at the head of RXQ (R96, R97). -/

namespace Sys2Proof.Machine

/-! ## Validation (R93) -/

section Validate

variable {par : Params} {buf : Vector Byte 47}

theorem validate_badChecksum (hsum : checksumOK buf = false) : validate par buf = .badChecksum := by
  simp [validate, hsum]

theorem validate_badTemp (hsum : checksumOK buf = true) (htemp : plausible par (statusDecode par buf) = false) :
    validate par buf = .badTemp := by
  simp [validate, hsum, htemp]

theorem validate_accepted (hsum : checksumOK buf = true) (htemp : plausible par (statusDecode par buf) = true) :
    validate par buf = .accepted := by
  simp [validate, hsum, htemp]

end Validate

/-! ## Temperatures (R91, R92, R94) -/

theorem plausible_iff (par : Params) (d : DeviceState) :
    plausible par d = true ↔
      20 ≤ d.curtemp.toNat ∧ d.curtemp.toNat ≤ par.raw.curTempRawMax.toNat ∧ d.setpoint.toNat ≤ 14 := by
  simp only [plausible, Bool.and_eq_true, decide_eq_true_eq, and_assoc]

theorem le_currentTemperature_iff (n : Nat) (raw : Byte) : (n : Rat) ≤ currentTemperature raw ↔ n * 2 ≤ raw.toNat := by
  rw [currentTemperature, le_div_iff₀ two_pos]
  exact_mod_cast Iff.rfl

theorem currentTemperature_le_iff (raw : Byte) (n : Nat) : currentTemperature raw ≤ n ↔ raw.toNat ≤ n * 2 := by
  rw [currentTemperature, div_le_iff₀ two_pos]
  exact_mod_cast Iff.rfl

/-! ## The mode/fan byte (R54, R95) -/

theorem modeCode_toNat (mf : Byte) : (modeCode mf).toNat = mf.toNat / 16 * 16 := by
  have hclear : modeCode mf = mf >>> 4 <<< 4 := by
    rw [BitVec.shiftLeft_ushiftRight]
    rfl
  have hlt := mf.isLt
  rw [hclear, BitVec.toNat_shiftLeft, BitVec.toNat_ushiftRight, Nat.shiftRight_eq_div_pow, Nat.shiftLeft_eq]
  omega

theorem fanCode_toNat (mf : Byte) : (fanCode mf).toNat = mf.toNat % 16 := by
  simp [fanCode]

/-! ## The mode memory (R98) -/

theorem mmUpdate_fanOnly {d : DeviceState} (h : d.mode = 0xC0) (mm : ModeMemory) :
    mmUpdate d mm = { mm with fanFan := d.fan, fanSet := d.setpoint } := if_pos h

theorem mmUpdate_climate {d : DeviceState} (h : d.mode ≠ 0xC0) (mm : ModeMemory) :
    mmUpdate d mm = { mm with climFan := d.fan, climSet := d.setpoint } := if_neg h

/-! ## The projection (R100 to R102) -/

section Projection

variable {d : DeviceState}

theorem projMode_powerOff (hoff : d.power = false) : projMode d = .off := if_pos hoff

theorem projMode_unnamed (hon : d.power = true) (h : d.mode ∉ [0x00#8, 0x20#8, 0x40#8, 0x80#8, 0xC0#8]) :
    projMode d = .unknown := by
  simp only [List.mem_cons, List.not_mem_nil, or_false, not_or] at h
  obtain ⟨hauto, hcool, hdry, hheat, hfan⟩ := h
  simp [projMode, hon, hauto, hcool, hdry, hheat, hfan]

theorem projFan_powerOff (hoff : d.power = false) : projFan d = .off := if_pos hoff

theorem projFan_quiet (hon : d.power = true) (hquiet : d.quiet = true) : projFan d = .low := by
  simp [projFan, hon, hquiet]

theorem projFan_fast (hon : d.power = true) (hquiet : d.quiet = false) (hfast : d.fast = true) :
    projFan d = .high := by
  simp [projFan, hon, hquiet, hfast]

theorem projFan_unnamed (hon : d.power = true) (hquiet : d.quiet = false) (hfast : d.fast = false)
    (h : d.fan ∉ [0x5#4, 0x3#4, 0x2#4, 0x1#4]) : projFan d = .auto := by
  simp only [List.mem_cons, List.not_mem_nil, or_false, not_or] at h
  obtain ⟨-, hlow, hmedium, hhigh⟩ := h
  simp [projFan, hon, hquiet, hfast, hlow, hmedium, hhigh]

theorem projSwing_powerOff (par : Params) (hoff : d.power = false) : projSwing par d = .off := if_pos hoff

end Projection

/-! ## PROCESS over a whole frame (R96, R97) -/

theorem processResponse_notAccepted {e : FrameEvt} (h : e ≠ .accepted) (s : State) :
    processResponse e s =
      { status := .ok, evt := some e, sent := false, valid := none, proj := none, fields := none } := by
  rw [processResponse, if_neg h]
  rfl

section WholeFrame

variable {s : State} {f : Vector Byte 47} {rest : List Byte} (hs : s.asmState = .seek)
  (h0 : f[0] = Config.preambleByte) (h1 : f[1] = Config.preambleByte) (hq : s.rxq = f.toList ++ rest)
include hs h0 h1 hq

theorem exec_process_acceptedFrame (hv : frameVerdict s.par f = .accepted) :
    exec .process s = .next { s with
      rxq := rest
      rxbuf := f
      asmCnt := 0
      asmState := .seek
      ds := some (statusDecode s.par f)
      mm := mmUpdate (statusDecode s.par f) s.mm
      statusValid := true
      rsplog := s.rsplog ++
        [{ status := .ok, evt := some .accepted, sent := false, valid := none,
           proj := some (projection s.par (statusDecode s.par f)), fields := none }] } :=
  exec_process_of_run ((processRun_frame hs h0 h1 hq).trans (frameReadyEval_accepted hv))

theorem exec_process_rejectedFrame (hv : frameVerdict s.par f ≠ .accepted) :
    exec .process s = .next { s with
      rxq := rest
      rxbuf := f
      asmCnt := 0
      asmState := .seek
      rsplog := s.rsplog ++
        [{ status := .ok, evt := some (frameVerdict s.par f), sent := false, valid := none, proj := none,
           fields := none }] } := by
  rw [exec_process_of_run ((processRun_frame hs h0 h1 hq).trans (frameReadyEval_rejected hv)),
    processResponse_notAccepted hv]
  rfl

end WholeFrame

end Sys2Proof.Machine

open Sys2Proof Sys2Proof.Machine

/-- Settles O33: a candidate that passes type, checksum and temperatures has the verdict ACCEPTED. -/
theorem acceptedFrameReplacesDeviceState : Obligations.AcceptedFrameReplacesDeviceState := by
  refine ⟨fun _ => rfl, fun s f rest hs h0 h1 hq htype hsum htemp => ?_⟩
  have hv : frameVerdict s.par f = .accepted := (frameVerdict_statusType htype).trans (validate_accepted hsum htemp)
  exact exec_process_acceptedFrame hs h0 h1 hq hv

/-- Settles O34: the first failing check is the verdict, and no such verdict is ACCEPTED. -/
theorem rejectedFrameLeavesDeviceState : Obligations.RejectedFrameLeavesDeviceState := by
  refine ⟨fun s hrej => ?_, fun s f rest e hs h0 h1 hq hfail => ?_⟩
  · rw [frameReadyEval_rejected hrej]
  · have hv : frameVerdict s.par f = e ∧ e ≠ .accepted := by
      rcases hfail with ⟨htype, rfl⟩ | ⟨htype, hsum, rfl⟩ | ⟨htype, hsum, htemp, rfl⟩
      · exact ⟨frameVerdict_otherType htype, by decide⟩
      · exact ⟨(frameVerdict_statusType htype).trans (validate_badChecksum hsum), by decide⟩
      · exact ⟨(frameVerdict_statusType htype).trans (validate_badTemp hsum htemp), by decide⟩
    obtain ⟨rfl, hne⟩ := hv
    exact exec_process_rejectedFrame hs h0 h1 hq hne

/-- Settles O30, one lemma per outcome. -/
theorem validateChecksChecksumThenTemperatures : Obligations.ValidateChecksChecksumThenTemperatures :=
  fun _ _ => ⟨validate_badChecksum, validate_badTemp, validate_accepted⟩

/-- Settles O31: the raw bounds, and each bound in degrees as a bound on the raw byte. -/
theorem plausibleMeansTemperaturesInRange : Obligations.PlausibleMeansTemperaturesInRange := by
  refine fun par d => ⟨plausible_iff par d, fun hmax => ?_, fun hmax => ?_⟩
  · have hraw : par.raw.curTempRawMax.toNat = 100 := congrArg BitVec.toNat hmax
    have hlow := le_currentTemperature_iff 10 d.curtemp
    have hhigh := currentTemperature_le_iff d.curtemp 50
    push_cast at hlow hhigh
    rw [plausible_iff, hraw, hlow, hhigh, targetTemperature]
    omega
  · have hraw : par.raw.curTempRawMax.toNat = 101 := congrArg BitVec.toNat hmax
    rw [plausible_iff, hraw, targetTemperature]
    omega

/-- Settles O32: a bit of a byte is a bit of its value, and the mode/fan byte splits into its nibbles. -/
theorem statusDecodeUnpacksItsBytes : Obligations.StatusDecodeUnpacksItsBytes := fun _ _ =>
  ⟨rfl, rfl, rfl, rfl, modeCode_toNat _, fanCode_toNat _, rfl, rfl, rfl, rfl⟩

/-- Settles O35, one lemma per slot. -/
theorem modeMemoryRefreshesOneSlot : Obligations.ModeMemoryRefreshesOneSlot := fun _ mm =>
  ⟨(mmUpdate_fanOnly · mm), (mmUpdate_climate · mm)⟩

/-- Settles O36, one row of the table at a time. -/
theorem projectedModeTable : Obligations.ProjectedModeTable := by
  refine fun d => ⟨projMode_powerOff, fun hon => ⟨?_, ?_, ?_, ?_, ?_, projMode_unnamed hon⟩⟩ <;>
  · intro hcode
    simp [projMode, hon, hcode]

/-- Settles O37: quiet, then fast, then the fan code. -/
theorem projectedFanTable : Obligations.ProjectedFanTable := by
  refine fun d => ⟨projFan_powerOff, projFan_quiet, projFan_fast, fun hon hquiet hfast =>
    ⟨?_, ?_, ?_, ?_, projFan_unnamed hon hquiet hfast⟩⟩ <;>
  · intro hcode
    simp [projFan, hon, hquiet, hfast, hcode]

/-- Settles O38: with power on, the two axes are compared with their Auto codes. -/
theorem projectedSwingTable : Obligations.ProjectedSwingTable := by
  refine fun par d => ⟨projSwing_powerOff par, fun hon => ⟨?_, ?_, ?_, ?_⟩⟩ <;>
  · intro hh hv
    simp [projSwing, hon, hh, hv]

end

section
/-! The command encoder (spec/43_command_encoder.md): the working values after the four categories, field by field
(R105 to R111), the packed and finalised ControlFrame that carries them (R112, R113), and the three answers of
REQ_CHANGE (R104, R114). -/

namespace Sys2Proof.Machine

/-! ## The working values (R105 to R111) -/

section ModeChange

variable (mode : ModeReq) (dsPower : Bool) (mm : ModeMemory) (w : Working)

/-! A mode request writes power, mode, fan and setpoint only (R106). -/

@[simp] theorem modeChange_pu : (modeChange mode dsPower mm w).pu = w.pu := by cases mode <;> rfl
@[simp] theorem modeChange_q : (modeChange mode dsPower mm w).q = w.q := by cases mode <;> rfl
@[simp] theorem modeChange_fa : (modeChange mode dsPower mm w).fa = w.fa := by cases mode <;> rfl
@[simp] theorem modeChange_h : (modeChange mode dsPower mm w).h = w.h := by cases mode <;> rfl
@[simp] theorem modeChange_v : (modeChange mode dsPower mm w).v = w.v := by cases mode <;> rfl

end ModeChange

section ApplyChanges

variable (par : Params) (mm : ModeMemory) (dsPower mp : Bool) (mode : ModeReq) (fp : Bool) (fan : FanReq) (sp : Bool)
  (swing : SwingReq) (tp : Bool) (temp : Byte) (w : Working)

/-! Each field after the four categories of R111: reading a field passes through every category that does not write it,
and of two that do the later one counts. -/

theorem applyChanges_p :
    (applyChanges par mm dsPower mp mode fp fan sp swing tp temp w).p =
      if mp then (modeChange mode dsPower mm w).p else w.p := by
  simp only [applyChanges, apply_ite Working.p, ite_self]

theorem applyChanges_pu : (applyChanges par mm dsPower mp mode fp fan sp swing tp temp w).pu = w.pu := by
  simp only [applyChanges, apply_ite Working.pu, modeChange_pu, ite_self]

theorem applyChanges_q : (applyChanges par mm dsPower mp mode fp fan sp swing tp temp w).q = w.q := by
  simp only [applyChanges, apply_ite Working.q, modeChange_q, ite_self]

theorem applyChanges_fa : (applyChanges par mm dsPower mp mode fp fan sp swing tp temp w).fa = w.fa := by
  simp only [applyChanges, apply_ite Working.fa, modeChange_fa, ite_self]

theorem applyChanges_m :
    (applyChanges par mm dsPower mp mode fp fan sp swing tp temp w).m =
      if mp then (modeChange mode dsPower mm w).m else w.m := by
  simp only [applyChanges, apply_ite Working.m, ite_self]

theorem applyChanges_fn :
    (applyChanges par mm dsPower mp mode fp fan sp swing tp temp w).fn =
      if fp then fanChange fan (if mp then (modeChange mode dsPower mm w).fn else w.fn)
      else if mp then (modeChange mode dsPower mm w).fn else w.fn := by
  simp only [applyChanges, apply_ite Working.fn, ite_self]

theorem applyChanges_sp :
    (applyChanges par mm dsPower mp mode fp fan sp swing tp temp w).sp =
      if tp then tempToRaw temp else if mp then (modeChange mode dsPower mm w).sp else w.sp := by
  simp only [applyChanges, apply_ite Working.sp, ite_self]

theorem applyChanges_h :
    (applyChanges par mm dsPower mp mode fp fan sp swing tp temp w).h =
      if sp then (swingChange par swing).1 else w.h := by
  simp only [applyChanges, apply_ite Working.h, modeChange_h, ite_self]

theorem applyChanges_v :
    (applyChanges par mm dsPower mp mode fp fan sp swing tp temp w).v =
      if sp then (swingChange par swing).2 else w.v := by
  simp only [applyChanges, apply_ite Working.v, modeChange_v, ite_self]

end ApplyChanges

/-- TempToRaw as arithmetic on naturals: 240 is the residue of -16 modulo 256 (R109). -/
theorem tempToRaw_toNat (temp : Byte) : (tempToRaw temp).toNat = ((temp.toNat + 1) / 2 + 240) % 256 := by
  rw [tempToRaw, BitVec.toNat_ofInt, Nat.shiftRight_eq_div_pow]
  omega

/-! ## The bit-packed bytes (R54, R55, R112) -/

theorem flagBit_getLsbD (b : Bool) (k : Nat) {i : Nat} (hi : i < 8) :
    (flagBit b k).getLsbD i = (decide (i = k) && b) := by
  rcases lt_trichotomy i k with hlt | rfl | hgt
  · simp [flagBit, hlt, hlt.ne]
  · simp [flagBit, hi]
  · simp [flagBit, hgt.ne', Nat.sub_ne_zero_of_lt hgt]

/-- The mask `0xE4` keeps the template's bits where no flag is written and clears the four that are (R112). -/
theorem packFlags_getLsbD (t : Byte) (p pu q fa : Bool) {k : Nat} (hk : k < 8) :
    (packFlags t p pu q fa).getLsbD k =
      if k = 0 then p else if k = 1 then pu else if k = 3 then q else if k = 4 then fa else t.getLsbD k := by
  simp only [packFlags, BitVec.getLsbD_or, BitVec.getLsbD_and, flagBit_getLsbD _ _ hk]
  interval_cases k <;> simp

section PackFlags

variable (t : Byte) (p pu q fa : Bool)

@[simp] theorem flagPower_packFlags : flagPower (packFlags t p pu q fa) = p :=
  packFlags_getLsbD t p pu q fa (by decide)
@[simp] theorem flagPurify_packFlags : flagPurify (packFlags t p pu q fa) = pu :=
  packFlags_getLsbD t p pu q fa (by decide)
@[simp] theorem flagQuiet_packFlags : flagQuiet (packFlags t p pu q fa) = q :=
  packFlags_getLsbD t p pu q fa (by decide)
@[simp] theorem flagFast_packFlags : flagFast (packFlags t p pu q fa) = fa :=
  packFlags_getLsbD t p pu q fa (by decide)

end PackFlags

/-- The fan code as a byte is the low nibble at its place. -/
theorem fanCode_setWidth (mf : Byte) : (fanCode mf).setWidth 8 = mf &&& 0x0F := by
  refine BitVec.eq_of_toNat_eq ?_
  rw [BitVec.toNat_setWidth, fanCode_toNat, BitVec.toNat_and]
  exact (Nat.mod_eq_of_lt (by omega)).trans (Nat.and_two_pow_sub_one_eq_mod mf.toNat 4).symm

/-! ## The ControlFrame (R112, R113) -/

/-- The five field bytes of the packed frame: the indices are distinct (R8), so no write overwrites another. -/
theorem pack_fieldBytes (par : Params) (w : Working) :
    (pack par w)[par.raw.ctOffModeFan] = packModeFan w.m w.fn ∧
    (pack par w)[par.raw.ctOffFlags] = packFlags par.raw.ctrlTemplate[par.raw.ctOffFlags] w.p w.pu w.q w.fa ∧
    (pack par w)[par.raw.ctOffSetpoint] = w.sp ∧
    (pack par w)[par.raw.ctOffHSwing] = w.h ∧
    (pack par w)[par.raw.ctOffVSwing] = w.v := by
  obtain ⟨-, -, -, hdistinct, -⟩ := (rawParams_wf_iff par.raw).mp par.ok
  simp only [controlIndices, List.nodup_cons, List.mem_cons, List.not_mem_nil, or_false, not_or, Fin.ext_iff]
    at hdistinct
  obtain ⟨⟨hmf1, hmf2, hmf3, hmf4⟩, ⟨hfl1, hfl2, hfl3⟩, ⟨hsp1, hsp2⟩, hh, -⟩ := hdistinct
  refine ⟨?modeFan, ?flags, ?setpoint, ?hswing, ?vswing⟩
  case modeFan => simp [pack, Ne.symm hmf1, Ne.symm hmf2, Ne.symm hmf3, Ne.symm hmf4]
  case flags => simp [pack, Ne.symm hfl1, Ne.symm hfl2, Ne.symm hfl3]
  case setpoint => simp [pack, Ne.symm hsp1, Ne.symm hsp2]
  case hswing => simp [pack, Ne.symm hh]
  case vswing => simp [pack]

@[simp] theorem controlFrame_length (par : Params) (w : Working) : (controlFrame par w).length = 25 := by
  simp [controlFrame]

theorem controlFrame_getElem?_of_lt (par : Params) (w : Working) {i : Nat} (hi : i < 22) :
    (controlFrame par w)[i]? = (pack par w).toList[i]? :=
  finalize_getElem?_of_lt (by rwa [checksumOffset_pack])

/-- A field byte lies before the trailer (R8), so the frame carries it as packed. -/
theorem controlFrame_fieldByte {par : Params} (w : Working) {i : Fin 25} (hi : i ∈ controlIndices par.raw) :
    (controlFrame par w)[i.val]? = some (pack par w)[i] := by
  obtain ⟨-, -, hrange, -⟩ := (rawParams_wf_iff par.raw).mp par.ok
  rw [controlFrame_getElem?_of_lt par w (by have := hrange i hi; omega)]
  simp

/-- The frame carries the working values at its five field bytes. -/
structure CarriesFields (par : Params) (w : Working) (f : List Byte) : Prop where
  modeFan : f[par.raw.ctOffModeFan.val]? = some (packModeFan w.m w.fn)
  flags : f[par.raw.ctOffFlags.val]? =
    some (packFlags par.raw.ctrlTemplate[par.raw.ctOffFlags] w.p w.pu w.q w.fa)
  setpoint : f[par.raw.ctOffSetpoint.val]? = some w.sp
  hswing : f[par.raw.ctOffHSwing.val]? = some w.h
  vswing : f[par.raw.ctOffVSwing.val]? = some w.v

theorem carriesFields_controlFrame (par : Params) (w : Working) : CarriesFields par w (controlFrame par w) := by
  obtain ⟨hmf, hfl, hsp, hh, hv⟩ := pack_fieldBytes par w
  constructor
  case modeFan => rw [controlFrame_fieldByte w (by simp [controlIndices]), hmf]
  case flags => rw [controlFrame_fieldByte w (by simp [controlIndices]), hfl]
  case setpoint => rw [controlFrame_fieldByte w (by simp [controlIndices]), hsp]
  case hswing => rw [controlFrame_fieldByte w (by simp [controlIndices]), hh]
  case vswing => rw [controlFrame_fieldByte w (by simp [controlIndices]), hv]

/-! ## The mode memory after two frames (R98, R116) -/

/-- A climate frame, then a fan-only one: each slot holds its own frame's fan and setpoint. -/
theorem mmUpdate_climate_then_fanOnly {d e : DeviceState} (hd : d.mode ≠ 0xC0) (he : e.mode = 0xC0)
    (mm : ModeMemory) :
    mmUpdate e (mmUpdate d mm) =
      { climFan := d.fan, climSet := d.setpoint, fanFan := e.fan, fanSet := e.setpoint } := by
  rw [mmUpdate_fanOnly he, mmUpdate_climate hd]

/-! ## The answers of REQ_CHANGE (R104, R114) -/

section ReqChange

variable {s : State} {mp : Bool} {mode : ModeReq} {fp : Bool} {fan : FanReq} {sp : Bool} {swing : SwingReq}
  {tp : Bool} {temp : Byte}

theorem exec_reqChange_rejected (h : s.statusValid = false) :
    exec (.reqChange mp mode fp fan sp swing tp temp) s = .next (raiseOutcome .rejected s) := if_pos h

theorem exec_reqChange_absent (h : s.statusValid = true) (hnone : (mp || fp || sp || tp) = false) :
    exec (.reqChange mp mode fp fan sp swing tp temp) s = .next (respond (Response.plain .ok false) s) :=
  (if_neg (by simp [h])).trans (if_pos hnone)

theorem exec_reqChange_present (h : s.statusValid = true) (hsome : mp = true ∨ fp = true ∨ sp = true ∨ tp = true) :
    exec (.reqChange mp mode fp fan sp swing tp temp) s =
      .next (sendFixed (controlFrame s.par
        (applyChanges s.par s.mm (dsValue s).power mp mode fp fan sp swing tp temp (seed (dsValue s)))) s) :=
  (if_neg (by simp [h])).trans (if_neg (by rcases hsome with rfl | rfl | rfl | rfl <;> simp))

end ReqChange

end Sys2Proof.Machine

open Sys2Proof Sys2Proof.Machine

/-- Settles O41: the frame carries the working values, each read through the categories that write it. -/
theorem requestFrameCarriesSeedMemoryAndChanges : Obligations.RequestFrameCarriesSeedMemoryAndChanges := by
  intro s d mp mode fp fan sp swing tp temp hvalid hds hsome
  obtain ⟨hmf, hfl, hsp, hh, hv⟩ := carriesFields_controlFrame s.par
    (applyChanges s.par s.mm d.power mp mode fp fan sp swing tp temp (seed d))
  refine ⟨_, _, exec_reqChange_present hvalid hsome, sendFixed_txlog _ _, ?_⟩
  rw [dsValue_some hds]
  refine ⟨hsp.trans ?setpoint, hmf.trans ?modeFan, hh.trans ?hswing, hv.trans ?vswing, _, hfl, ?power, ?purify,
    ?quiet, ?fast⟩
  case setpoint => rw [applyChanges_sp]; cases mode <;> rfl
  case modeFan =>
    rw [applyChanges_m, applyChanges_fn]
    refine congrArg some (congrArg₂ packModeFan ?code ?level)
    case code => cases mode <;> rfl
    case level => cases mode <;> cases fan <;> rfl
  case hswing => rw [applyChanges_h]; cases swing <;> rfl
  case vswing => rw [applyChanges_v]; cases swing <;> rfl
  case power => refine (flagPower_packFlags ..).trans ?_; rw [applyChanges_p]; cases mode <;> rfl
  case purify => exact (flagPurify_packFlags ..).trans (applyChanges_pu ..)
  case quiet => exact (flagQuiet_packFlags ..).trans (applyChanges_q ..)
  case fast => exact (flagFast_packFlags ..).trans (applyChanges_fa ..)

/-- Settles O44: the writes are at distinct indices, and the flags byte is read bit by bit. -/
theorem packPutsFieldsIntoTheTemplate : Obligations.PackPutsFieldsIntoTheTemplate := by
  intro par w
  obtain ⟨hmf, hfl, hsp, hh, hv⟩ := pack_fieldBytes par w
  refine ⟨hmf, fun k hk => ?flags, hsp, hh, hv, fun i hmf hfl hsp hh hv => ?rest⟩
  case flags => rw [hfl, packFlags_getLsbD _ _ _ _ _ hk]
  case rest => exact pack_of_not_mem w (by simp [controlIndices, hmf, hfl, hsp, hh, hv])

/-- Settles O45: the template's length byte puts the trailer at 22, inside the frame. -/
theorem controlFrameIsFinalised : Obligations.ControlFrameIsFinalised := by
  intro par w
  have hco := checksumOffset_pack par w
  have hinside : checksumOffset (pack par w).toList + 2 < (pack par w).toList.length := by simp [hco]
  have hsum := finalize_checksum hinside
  have hhigh := finalize_crcHigh hinside
  have hlow := finalize_crcLow hinside
  rw [hco] at hsum hhigh hlow
  exact ⟨controlFrame_length par w, fun i => controlFrame_getElem?_of_lt par w, hsum, hhigh, hlow⟩

/-- Settles O48: the fan-only frame leaves the climate slot to the climate frame, and Heat restores that slot. -/
theorem modeMemoryRoundTrip : Obligations.ModeMemoryRoundTrip := by
  intro s a b rest hs hq ha0 ha1 hva hb0 hb1 hvb hma hmb
  have hmm := mmUpdate_climate_then_fanOnly (d := statusDecode s.par a) (e := statusDecode s.par b) hma hmb s.mm
  refine ⟨_, _, _, _, exec_process_acceptedFrame hs ha0 ha1 hq hva, exec_process_acceptedFrame rfl hb0 hb1 rfl hvb,
    exec_reqChange_present rfl (.inl rfl), rfl, (carriesFields_controlFrame s.par _).modeFan.trans ?modeFan,
    (carriesFields_controlFrame s.par _).setpoint.trans ?setpoint, _, (carriesFields_controlFrame s.par _).flags,
    flagPower_packFlags ..⟩
  case modeFan =>
    change some (packModeFan 0x80 (mmUpdate _ (mmUpdate _ _)).climFan) = _
    rw [hmm, packModeFan, ← fanCode_setWidth]
    rfl
  case setpoint =>
    change some (mmUpdate _ (mmUpdate _ _)).climSet = _
    rw [hmm]
    rfl

/-- Settles O39. -/
theorem requestBeforeFirstStatusIsRejected : Obligations.RequestBeforeFirstStatusIsRejected :=
  fun _ _ _ _ _ _ _ _ _ => exec_reqChange_rejected

/-- Settles O40: a present category transmits the frame of the working values, and no category none. -/
theorem requestTransmitsOneFrameOrNone : Obligations.RequestTransmitsOneFrameOrNone := by
  refine fun s mp mode fp fan sp swing tp temp hvalid => ⟨fun hsome => ?_, ?_⟩
  · exact ⟨_, controlFrame_length _ _, ⟨_, rfl⟩, exec_reqChange_present hvalid hsome⟩
  · rintro rfl rfl rfl rfl
    exact exec_reqChange_absent hvalid rfl

/-- Settles O42, one row of the table at a time. -/
theorem modeChangeTable : Obligations.ModeChangeTable := fun _ _ _ => ⟨rfl, rfl, rfl, rfl, rfl, rfl, rfl, rfl⟩

/-- Settles O43: from 31 half-degrees on nothing wraps. -/
theorem tempToRawRoundsAndWraps : Obligations.TempToRawRoundsAndWraps := by
  refine ⟨tempToRaw_toNat, fun temp h31 => ?_, by decide⟩
  have hlt := temp.isLt
  rw [tempToRaw_toNat]
  omega

end

section
/-! The poll, initialisation and state-read operations (spec/44_host_ops.md): a fixed frame goes out whatever the state,
and a state read copies DS only while the latch is set. -/

namespace Sys2Proof.Machine

/-! ## The state read (R119) -/

/-- The response is the only thing a state read adds, so its content decides the next state. -/
theorem exec_readState_of_response {s : State} {r : Response} (hr : readStateResponse s = r) :
    exec .readState s = .next { s with rsplog := s.rsplog ++ [r] } := by
  subst hr
  rfl

theorem readStateResponse_of_not_statusValid {s : State} (hvalid : s.statusValid = false) :
    readStateResponse s = { Response.plain .ok false with valid := some false } := by
  simp [readStateResponse, hvalid, Response.plain]

theorem readStateResponse_of_statusValid {s : State} {d : DeviceState} (hvalid : s.statusValid = true)
    (hds : s.ds = some d) :
    readStateResponse s =
      { Response.plain .ok false with
        valid := some true
        proj := some (projection s.par d)
        fields := some d } := by
  simp [readStateResponse, hvalid, dsValue_some hds]

end Sys2Proof.Machine

open Sys2Proof Sys2Proof.Machine

/-- Settles O49: the poll frame is one frame and one plain answer, whatever the state. -/
theorem sendPollTransmitsThePollFrame : Obligations.SendPollTransmitsThePollFrame :=
  fun s => congrArg Host.Outcome.next (sendFixed_eq_answered Config.pollFrame s)

/-- Settles O50: each InitFrame is taken from the parameters, so no earlier command matters. -/
theorem sendInitTransmitsItsFrame : Obligations.SendInitTransmitsItsFrame :=
  fun s => ⟨congrArg Host.Outcome.next (sendFixed_eq_answered s.par.raw.initFrame1.toList s),
    congrArg Host.Outcome.next (sendFixed_eq_answered s.par.raw.initFrame2.toList s)⟩

/-- Settles O51, by the two values of the latch. -/
theorem readStateAnswersDeviceState : Obligations.ReadStateAnswersDeviceState :=
  fun _ => ⟨fun hvalid => exec_readState_of_response (readStateResponse_of_not_statusValid hvalid),
    fun _ hvalid hds => exec_readState_of_response (readStateResponse_of_statusValid hvalid hds)⟩

end

section
/-! Illegal words, and the absence of a fatal path (spec/60_exceptions.md R120, R123): a word that decodes is none of the
three kinds that R123 names, so a word of such a kind is answered ILLEGAL_CMD. -/

namespace Sys2Proof

/-- The three kinds of illegal word of R123: a reserved opcode, a reserved bit of REQ_CHANGE, a reserved bit of another
legal opcode. -/
abbrev IllegalWord (w : Word) : Prop :=
  (w &&& 0xF#32 = 0x0#32 ∨ 0x7#32 ≤ w &&& 0xF#32) ∨
    (w &&& 0xF#32 = 0x5#32 ∧ w &&& 0xFF000000#32 ≠ 0#32) ∨
    ((w &&& 0xF#32 = 0x1#32 ∨ w &&& 0xF#32 = 0x2#32 ∨ w &&& 0xF#32 = 0x3#32 ∨ w &&& 0xF#32 = 0x4#32
      ∨ w &&& 0xF#32 = 0x6#32) ∧ w &&& 0xFFFFFFF0#32 ≠ 0#32)

/-- Under a smaller mask the word still agrees with the pattern. -/
theorem and_eq_of_mask {w m m' p : Word} (h : w &&& m = p) (hm : m &&& m' = m') : w &&& m' = p &&& m' := by
  rw [← h, BitVec.and_assoc, hm]

/-- The words of the REQ_CHANGE row: the opcode is 5, so the other kinds do not apply, and the reserved bits are 0. -/
theorem not_illegalWord_of_reqChangeRow {w : Word} (h : w &&& 0xFF00000F#32 = 0x00000005#32) : ¬ IllegalWord w := by
  have hop : w &&& 0xF#32 = 0x5#32 := and_eq_of_mask h rfl
  have hhigh : w &&& 0xFF000000#32 = 0#32 := and_eq_of_mask h rfl
  simp [IllegalWord, hop, hhigh]

/-- No word that the decoder accepts is of an illegal kind: an operation without operands has one word. -/
theorem not_illegalWord_of_decode {w : Word} {i : Instr} (h : decode w = .ok i) : ¬ IllegalWord w := by
  rw [← encode_of_decode h]
  cases i with
  | reqChange => exact not_illegalWord_of_reqChangeRow (encode_mask_eq_pattern (.reqChange ..))
  | process => decide
  | sendPoll => decide
  | sendInit1 => decide
  | sendInit2 => decide
  | readState => decide

end Sys2Proof

open Sys2Proof Sys2Proof.Machine

/-- Settles O13: the decoder rejects the word, whichever of its two reasons it gives. -/
theorem illegalWordReportsIllegalCmd : Obligations.IllegalWordReportsIllegalCmd := by
  intro s w rest hs hill
  cases hw : decode w with
  | error e => exact step_command_error hs hw
  | ok i => exact absurd hill (not_illegalWord_of_decode hw)

/-- Settles O52: every kind of move, and every command, has an equation that ends in a next state. -/
theorem nothingIsFatal : Obligations.NothingIsFatal := safeStep

end

section
/-! Requests one after another (spec/70_reset_and_hazards.md R138, R139): what REQ_CHANGE transmits and answers is
decided by the open parameters, DS, MM and the latch, and REQ_CHANGE itself writes none of them. -/

namespace Sys2Proof.Machine

/-- REQ_CHANGE hands over the same frames and gives the same response in every state with the parameters and the device
state of `s`: with the latch set DS holds a value, so the seed is that value (R105, R138). -/
theorem exec_reqChange_of_sameDevice {s : State} (hlatch : LatchMatches s) (mp : Bool) (mode : ModeReq) (fp : Bool)
    (fan : FanReq) (sp : Bool) (swing : SwingReq) (tp : Bool) (temp : Byte) :
    ∃ fs r, ∀ t, t.par = s.par → SameDevice s t →
      exec (.reqChange mp mode fp fan sp swing tp temp) t = .next (answered fs r t) := by
  cases hvalid : s.statusValid with
  | false =>
    refine ⟨[], Response.plain .rejected false, fun t _ ⟨_, _, hv⟩ => ?_⟩
    rw [exec_reqChange_rejected (hv.trans hvalid), raiseOutcome, respond_eq_answered]
  | true =>
    by_cases hsome : mp = true ∨ fp = true ∨ sp = true ∨ tp = true
    · obtain ⟨d, hd⟩ := Option.isSome_iff_exists.mp (hlatch.symm.trans hvalid)
      refine ⟨[controlFrame s.par (applyChanges s.par s.mm d.power mp mode fp fan sp swing tp temp (seed d))],
        Response.plain .ok true, fun t hpar ⟨hds, hmm, hv⟩ => ?_⟩
      rw [exec_reqChange_present (hv.trans hvalid) hsome, sendFixed_eq_answered, dsValue_some (hds.trans hd), hpar, hmm]
    · refine ⟨[], Response.plain .ok false, fun t _ ⟨_, _, hv⟩ => ?_⟩
      rw [exec_reqChange_absent (hv.trans hvalid) (by simpa [and_assoc] using hsome), respond_eq_answered]

end Sys2Proof.Machine

open Sys2Proof.Machine

/-- Settles O47: the first request only appends to TXLOG and to the responses, so the second finds the device state it
would have found in the first place. -/
theorem requestsDoNotAccumulate : Obligations.RequestsDoNotAccumulate := by
  intro s t u mp mode fp fan sp swing tp temp mp' mode' fp' fan' sp' swing' tp' temp' hlatch hfirst hsecond
  obtain ⟨fs, r, hex⟩ := exec_reqChange_of_sameDevice hlatch mp' mode' fp' fan' sp' swing' tp' temp'
  have hu : u = answered fs r s := Host.Outcome.next.inj (hsecond.symm.trans (hex s rfl ⟨rfl, rfl, rfl⟩))
  obtain hprocess | ⟨fs₁, r₁, rfl⟩ := exec_cases hfirst
  · cases hprocess
  · refine ⟨_, hex (answered fs₁ r₁ s) rfl ⟨rfl, rfl, rfl⟩, ?_⟩
    simp [hu, answered]

end
